-- ==== Sys2Proof/Word.lean ====
section
/-!
DEFINITION. The widths of spec/00_scope.md R6 and spec/30_encoding.md R81: bytes, words, addresses and register numbers.
-/

namespace Sys2Proof

/-- A byte: a V register, a memory cell, a timer, an immediate `nn` (R20, R29, R35, R81). Unsigned (R10). -/
abbrev Byte := BitVec 8

/-- A 16-bit word: an instruction word, pc, I, a stack entry (R6, R80). -/
abbrev Word := BitVec 16

/-- The 12-bit address field `nnn` (R81). -/
abbrev Addr := BitVec 12

/-- A general register number 0..15, the fields `x` and `y` (R20, R81). -/
abbrev Reg := Fin 16

/-- A logical key 0..15 (R37). -/
abbrev Key := Fin 16

/-- VF is V[15] (R9, R21). -/
abbrev VF : Reg := 15

end Sys2Proof
end

