-- ==== Sys2Proof/Syntax.lean ====
section
/-!
DEFINITION. The 35 instructions of spec/30_encoding.md R85, one constructor a row of spec/opcode_table.json, in its order.
-/

namespace Sys2Proof

/-- An instruction with its decoded fields (R81, R83). `x`, `y` are register numbers, `nnn` a 12-bit address, `nn` a byte,
`n` a sprite height 0..15. -/
inductive Instr where
  /-- 00E0 clear-screen (R193) -/
  | cls
  /-- 00EE return (R121) -/
  | ret
  /-- 0nnn sys-call (R122), every 0nnn but the two words above (R86) -/
  | sys (nnn : Addr)
  /-- 1nnn jump (R123) -/
  | jp (nnn : Addr)
  /-- 2nnn call (R124) -/
  | call (nnn : Addr)
  /-- 3xnn skip-equal-immediate (R126) -/
  | seVxNn (x : Reg) (nn : Byte)
  /-- 4xnn skip-not-equal-immediate (R127) -/
  | sneVxNn (x : Reg) (nn : Byte)
  /-- 5xy0 skip-equal-registers (R128) -/
  | seVxVy (x y : Reg)
  /-- 6xnn load-immediate (R141) -/
  | ldVxNn (x : Reg) (nn : Byte)
  /-- 7xnn add-immediate (R142) -/
  | addVxNn (x : Reg) (nn : Byte)
  /-- 8xy0 register copy (R143) -/
  | ldVxVy (x y : Reg)
  /-- 8xy1 OR (R144) -/
  | or (x y : Reg)
  /-- 8xy2 AND (R145) -/
  | and (x y : Reg)
  /-- 8xy3 XOR (R146) -/
  | xor (x y : Reg)
  /-- 8xy4 ADD (R147) -/
  | addVxVy (x y : Reg)
  /-- 8xy5 SUB (R148) -/
  | sub (x y : Reg)
  /-- 8xy6 SHR (R149); y is encoded and ignored -/
  | shr (x y : Reg)
  /-- 8xy7 SUBN (R150) -/
  | subn (x y : Reg)
  /-- 8xyE SHL (R151); y is encoded and ignored -/
  | shl (x y : Reg)
  /-- 9xy0 skip-not-equal-registers (R129) -/
  | sneVxVy (x y : Reg)
  /-- Annn set-index (R170) -/
  | ldI (nnn : Addr)
  /-- Bnnn jump-with-offset (R125) -/
  | jpV0 (nnn : Addr)
  /-- Cxnn random-and (R152) -/
  | rnd (x : Reg) (nn : Byte)
  /-- Dxyn draw-sprite (R192) -/
  | drw (x y : Reg) (n : Fin 16)
  /-- Ex9E skip-if-key-pressed (R210) -/
  | skp (x : Reg)
  /-- ExA1 skip-if-key-not-pressed (R211) -/
  | sknp (x : Reg)
  /-- Fx07 get-delay-timer (R213) -/
  | ldVxDt (x : Reg)
  /-- Fx0A wait-for-key (R212) -/
  | ldVxK (x : Reg)
  /-- Fx15 set-delay-timer (R214) -/
  | ldDtVx (x : Reg)
  /-- Fx18 set-sound-timer (R215) -/
  | ldStVx (x : Reg)
  /-- Fx1E add-to-index (R171) -/
  | addIVx (x : Reg)
  /-- Fx29 load-font-address (R172) -/
  | ldFVx (x : Reg)
  /-- Fx33 store-BCD (R174) -/
  | ldBVx (x : Reg)
  /-- Fx55 register-dump (R175) -/
  | ldMemVx (x : Reg)
  /-- Fx65 register-load (R176) -/
  | ldVxMem (x : Reg)
deriving DecidableEq, Repr

end Sys2Proof
end

