-- ==== Sys2Proof/Decode.lean ====
section
/-!
DEFINITION. Decoding and encoding, spec/30_encoding.md: the fields (R81), the opcode map as a table of mask and match rows
(R84, R85), the decoder (R86, R89), total on every word and refusing every other word by name (R87), and the encoder by the
six formats of R83.
-/

namespace Sys2Proof

/-- Field `a` = w[11:0], written `nnn` (R81). -/
def fieldA (w : Word) : Addr := w.extractLsb' 0 12

/-- Field `b` = w[7:0], written `nn` (R81). -/
def fieldB (w : Word) : Byte := w.extractLsb' 0 8

/-- Field `n` = w[3:0] (R81). -/
def fieldN (w : Word) : Fin 16 := (w.extractLsb' 0 4).toFin

/-- Field `x` = w[11:8] (R81). -/
def fieldX (w : Word) : Reg := (w.extractLsb' 8 4).toFin

/-- Field `y` = w[7:4] (R81). -/
def fieldY (w : Word) : Reg := (w.extractLsb' 4 4).toFin

/-- One row of R85: the words it selects, and the instruction it builds from a selected word's fields. -/
structure OpcodeRow where
  /-- the `match` column -/
  pattern : Word
  /-- the `mask` column -/
  mask : Word
  /-- the `id` column with the fields the instruction uses -/
  build : Word → Instr

/-- R84: a word selects the row when `w & mask == match`. -/
def OpcodeRow.selects (r : OpcodeRow) (w : Word) : Bool := w &&& r.mask == r.pattern

/-- Rows 3 to 10 of R85, and rows 20 to 24. Row 3 (SYS) is reached only after the tests of rows 1 and 2 (R86, R89). -/
def nibbleRows : List OpcodeRow :=
  [ ⟨0x0000, 0xF000, fun w => .sys (fieldA w)⟩,
    ⟨0x1000, 0xF000, fun w => .jp (fieldA w)⟩,
    ⟨0x2000, 0xF000, fun w => .call (fieldA w)⟩,
    ⟨0x3000, 0xF000, fun w => .seVxNn (fieldX w) (fieldB w)⟩,
    ⟨0x4000, 0xF000, fun w => .sneVxNn (fieldX w) (fieldB w)⟩,
    ⟨0x5000, 0xF00F, fun w => .seVxVy (fieldX w) (fieldY w)⟩,
    ⟨0x6000, 0xF000, fun w => .ldVxNn (fieldX w) (fieldB w)⟩,
    ⟨0x7000, 0xF000, fun w => .addVxNn (fieldX w) (fieldB w)⟩,
    ⟨0x9000, 0xF00F, fun w => .sneVxVy (fieldX w) (fieldY w)⟩,
    ⟨0xA000, 0xF000, fun w => .ldI (fieldA w)⟩,
    ⟨0xB000, 0xF000, fun w => .jpV0 (fieldA w)⟩,
    ⟨0xC000, 0xF000, fun w => .rnd (fieldX w) (fieldB w)⟩,
    ⟨0xD000, 0xF000, fun w => .drw (fieldX w) (fieldY w) (fieldN w)⟩ ]

/-- Rows 11 to 19 of R85: the nine members of the 8xyN group (90_conflicts.md C1). -/
def aluRows : List OpcodeRow :=
  [ ⟨0x8000, 0xF00F, fun w => .ldVxVy (fieldX w) (fieldY w)⟩,
    ⟨0x8001, 0xF00F, fun w => .or (fieldX w) (fieldY w)⟩,
    ⟨0x8002, 0xF00F, fun w => .and (fieldX w) (fieldY w)⟩,
    ⟨0x8003, 0xF00F, fun w => .xor (fieldX w) (fieldY w)⟩,
    ⟨0x8004, 0xF00F, fun w => .addVxVy (fieldX w) (fieldY w)⟩,
    ⟨0x8005, 0xF00F, fun w => .sub (fieldX w) (fieldY w)⟩,
    ⟨0x8006, 0xF00F, fun w => .shr (fieldX w) (fieldY w)⟩,
    ⟨0x8007, 0xF00F, fun w => .subn (fieldX w) (fieldY w)⟩,
    ⟨0x800E, 0xF00F, fun w => .shl (fieldX w) (fieldY w)⟩ ]

/-- Rows 25 to 35 of R85: the E and F groups. -/
def byteRows : List OpcodeRow :=
  [ ⟨0xE09E, 0xF0FF, fun w => .skp (fieldX w)⟩,
    ⟨0xE0A1, 0xF0FF, fun w => .sknp (fieldX w)⟩,
    ⟨0xF007, 0xF0FF, fun w => .ldVxDt (fieldX w)⟩,
    ⟨0xF00A, 0xF0FF, fun w => .ldVxK (fieldX w)⟩,
    ⟨0xF015, 0xF0FF, fun w => .ldDtVx (fieldX w)⟩,
    ⟨0xF018, 0xF0FF, fun w => .ldStVx (fieldX w)⟩,
    ⟨0xF01E, 0xF0FF, fun w => .addIVx (fieldX w)⟩,
    ⟨0xF029, 0xF0FF, fun w => .ldFVx (fieldX w)⟩,
    ⟨0xF033, 0xF0FF, fun w => .ldBVx (fieldX w)⟩,
    ⟨0xF055, 0xF0FF, fun w => .ldMemVx (fieldX w)⟩,
    ⟨0xF065, 0xF0FF, fun w => .ldVxMem (fieldX w)⟩ ]

/-- Rows 3 to 35 of R85; their order does not matter (R89). -/
def opcodeRows : List OpcodeRow := nibbleRows ++ aluRows ++ byteRows

/-- Why a word is no instruction. -/
inductive DecodeError where
  /-- R87: the word matches none of the 35 patterns. Raised by `decode`; executing such a word is
  Fatal(UnknownInstruction) (R104), which `Machine.State.runStep` takes. Safe: the spec names it. -/
  | unknownInstruction
deriving DecidableEq, Repr

/-- R89: CLS and RET by their exact words (R86), then the one row the word selects, else Unknown. -/
def decode (w : Word) : Except DecodeError Instr :=
  if w = 0x00E0 then .ok .cls
  else if w = 0x00EE then .ok .ret
  else match opcodeRows.find? (fun r => r.selects w) with
    | some r => .ok (r.build w)
    | none => .error .unknownInstruction

/-- R65, R80: the instruction word of two bytes, the byte at the lower address being bits 15..8. -/
def wordOfBytes (lower upper : Byte) : Word := lower ++ upper

/-- Bits 15..8 of a word: the byte stored at the lower address (R65). -/
def lowerAddressByte (w : Word) : Byte := w.extractLsb' 8 8

/-- Bits 7..0 of a word: the byte stored at the higher address (R65). -/
def higherAddressByte (w : Word) : Byte := w.extractLsb' 0 8

/-- The instruction of two consecutive bytes of memory (R65, R80). -/
def decodeBytes (lower upper : Byte) : Except DecodeError Instr := decode (wordOfBytes lower upper)

/-- Format F_A of R83: op, then nnn. -/
def formatA (op : BitVec 4) (nnn : Addr) : Word := op ++ nnn

/-- Format F_XB of R83: op, x, nn. -/
def formatXB (op : BitVec 4) (x : Reg) (nn : Byte) : Word := op ++ (BitVec.ofFin x : BitVec 4) ++ nn

/-- Formats F_XY (with a fixed last digit) and F_XYN (with the height) of R83: op, x, y, last digit. -/
def formatXY (op : BitVec 4) (x y : Reg) (last : BitVec 4) : Word :=
  op ++ (BitVec.ofFin x : BitVec 4) ++ (BitVec.ofFin y : BitVec 4) ++ last

/-- The word of an instruction (R83, R85); of a term that is not well formed, the word its fields spell. -/
def encode : Instr → Word
  | .cls => 0x00E0
  | .ret => 0x00EE
  | .sys nnn => formatA 0x0 nnn
  | .jp nnn => formatA 0x1 nnn
  | .call nnn => formatA 0x2 nnn
  | .seVxNn x nn => formatXB 0x3 x nn
  | .sneVxNn x nn => formatXB 0x4 x nn
  | .seVxVy x y => formatXY 0x5 x y 0x0
  | .ldVxNn x nn => formatXB 0x6 x nn
  | .addVxNn x nn => formatXB 0x7 x nn
  | .ldVxVy x y => formatXY 0x8 x y 0x0
  | .or x y => formatXY 0x8 x y 0x1
  | .and x y => formatXY 0x8 x y 0x2
  | .xor x y => formatXY 0x8 x y 0x3
  | .addVxVy x y => formatXY 0x8 x y 0x4
  | .sub x y => formatXY 0x8 x y 0x5
  | .shr x y => formatXY 0x8 x y 0x6
  | .subn x y => formatXY 0x8 x y 0x7
  | .shl x y => formatXY 0x8 x y 0xE
  | .sneVxVy x y => formatXY 0x9 x y 0x0
  | .ldI nnn => formatA 0xA nnn
  | .jpV0 nnn => formatA 0xB nnn
  | .rnd x nn => formatXB 0xC x nn
  | .drw x y n => formatXY 0xD x y (BitVec.ofFin n)
  | .skp x => formatXB 0xE x 0x9E
  | .sknp x => formatXB 0xE x 0xA1
  | .ldVxDt x => formatXB 0xF x 0x07
  | .ldVxK x => formatXB 0xF x 0x0A
  | .ldDtVx x => formatXB 0xF x 0x15
  | .ldStVx x => formatXB 0xF x 0x18
  | .addIVx x => formatXB 0xF x 0x1E
  | .ldFVx x => formatXB 0xF x 0x29
  | .ldBVx x => formatXB 0xF x 0x33
  | .ldMemVx x => formatXB 0xF x 0x55
  | .ldVxMem x => formatXB 0xF x 0x65

/-- The instruction the decoder reads from the instruction whose bits are `w`, numbered as spec/opcode_table.json numbers
them (bit 0 the least significant bit of the one 16-bit word), the bits above `nbits` zero: laid out as its two bytes in
memory order (R65) and given to the decoder. -/
def decodeTableWord (nbits w : Nat) : Option Instr :=
  let bits : Word := BitVec.ofNat 16 (w % 2 ^ nbits)
  match decodeBytes (lowerAddressByte bits) (higherAddressByte bits) with
  | .ok i => some i
  | .error _ => none

end Sys2Proof
end

