-- ==== Sys2Proof/Config.lean ====
section
/-!
DEFINITION. The parameters the spec leaves open (spec/00_scope.md R7, spec/92_eei_decisions.md): the settings of one machine,
and the free value of the random source. The spec's default settings stand in Machine/Defaults.lean.
-/

namespace Sys2Proof

/-- TICK_RESET (R100, D7): whether an executed step resets the frame counter. -/
inductive TickReset where
  /-- A step resets FC to 0: the source's section 4.1, the default. -/
  | onStep
  /-- No step resets FC: the source's section 3 reading of Speed. -/
  | onTick
deriving DecidableEq, Repr

/-- DRAW_REG_READ (R192, D20): when DRW reads Vx and Vy. -/
inductive DrawRegRead where
  /-- For every pixel, after VF was cleared: the default. -/
  | live
  /-- Once, before VF is cleared. -/
  | snapshot
deriving DecidableEq, Repr

/-- FONT: 80 bytes, glyph d at bytes 5d .. 5d+4 (R64, D3). -/
abbrev Font := Vector Byte 80

/-- The settings of one machine: R7 without SPEED_INIT (an argument of `Machine.State.powerOn`) and RNG (`Config.rngByte`).
They are a field of State that nothing changes. DESIGN CHOICE, safe: notes/assumptions/2.md. -/
structure Config where
  /-- FONT (D3). -/
  font : Font
  /-- TICK_RESET (D7). -/
  tickReset : TickReset
  /-- KEY0_IS_NONE (D22): whether Fx0A takes key 0 for "no key". -/
  key0IsNone : Bool
  /-- RELEASE_CLEARS_ALL (D23): whether releaseKey empties the whole keypad. -/
  releaseClearsAll : Bool
  /-- DRAW_REG_READ (D20). -/
  drawRegRead : DrawRegRead
deriving DecidableEq, Repr

/-- RNG (R152, D16): the byte of the n-th draw, a FREE VALUE: nothing in Lean evaluates it or proves a value of it, so a
claim about Cxnn holds for every draw. DESIGN CHOICE, safe: notes/assumptions/5.md. -/
opaque Config.rngByte : Nat → Byte

end Sys2Proof
end

