-- ==== Sys2Proof/Machine/Defaults.lean ====
section
/-!
DEFINITION. The default settings of spec/00_scope.md R7, and the default font of spec/20_memory.md R64.
-/

namespace Sys2Proof.Machine

/-- The glyphs of R64, five bytes each, glyph d the d-th. PRESUMED (the spec's own mark: from general knowledge, not in
source; D3, G1), unsafe: notes/assumptions/4.md. -/
def defaultGlyphs : List (List Byte) :=
  [ [0xF0, 0x90, 0x90, 0x90, 0xF0], [0x20, 0x60, 0x20, 0x20, 0x70],
    [0xF0, 0x10, 0xF0, 0x80, 0xF0], [0xF0, 0x10, 0xF0, 0x10, 0xF0],
    [0x90, 0x90, 0xF0, 0x10, 0x10], [0xF0, 0x80, 0xF0, 0x10, 0xF0],
    [0xF0, 0x80, 0xF0, 0x90, 0xF0], [0xF0, 0x10, 0x20, 0x40, 0x40] ] ++
  [ [0xF0, 0x90, 0xF0, 0x90, 0xF0], [0xF0, 0x90, 0xF0, 0x10, 0xF0],
    [0xF0, 0x90, 0xF0, 0x90, 0x90], [0xE0, 0x90, 0xE0, 0x90, 0xE0],
    [0xF0, 0x80, 0x80, 0x80, 0xF0], [0xE0, 0x90, 0x90, 0x90, 0xE0],
    [0xF0, 0x80, 0xF0, 0x80, 0xF0], [0xF0, 0x80, 0xF0, 0x80, 0x80] ]

/-- FONT's default (R64). -/
def defaultFont : Font := ⟨defaultGlyphs.flatten.toArray, rfl⟩

/-- The default settings of R7. -/
def defaultConfig : Config where
  font := defaultFont
  tickReset := .onStep
  key0IsNone := false
  releaseClearsAll := false
  drawRegRead := .live

/-- SPEED_INIT of `State.reset`: R7 leaves it open in 1..5 (D2). DESIGN CHOICE, unsafe: notes/assumptions/3.md. -/
def defaultSpeedInit : Nat := 1

end Sys2Proof.Machine
end

