-- ==== Sys2Proof/Machine/Framebuffer.lean ====
section
/-!
DEFINITION. The framebuffer, spec/10_state.md R36 and spec/44_display.md R190, R191, R195.
-/

namespace Sys2Proof.Machine

/-- R36: 32 rows of 64 one-bit cells; `fb[y][x]` is column x, row y. -/
abbrev Framebuffer := Vector (Vector Bool 64) 32

/-- Every cell 0 (R191). -/
def Framebuffer.blank : Framebuffer := Vector.replicate 32 (Vector.replicate 64 false)

/-- The cell at column x, row y. -/
def Framebuffer.cell (fb : Framebuffer) (x : Fin 64) (y : Fin 32) : Bool := fb[y][x]

/-- The new grid of drawPixel: `value` XORed into the cell (R190). -/
def Framebuffer.xorCell (fb : Framebuffer) (x : Fin 64) (y : Fin 32) (value : Bool) : Framebuffer :=
  fb.set y ((fb[y]).set x (fb[y][x] ^^ value))

/-- What drawPixel returns: whether the old cell and `value` were both 1 (R190). -/
def Framebuffer.collides (fb : Framebuffer) (x : Fin 64) (y : Fin 32) (value : Bool) : Bool := fb.cell x y && value

/-- The 2048 cells in row-major order, cell y*64 + x being `fb[y][x]` (R36, R195). -/
def Framebuffer.rowMajor (fb : Framebuffer) : List Bool := fb.toList.flatMap (fun row => row.toList)

end Sys2Proof.Machine
end

