-- ==== Sys2Proof/Machine/Memory.lean ====
section
/-!
DEFINITION. Memory, spec/20_memory.md: the 4096 bytes as a list of (address, byte) pairs in one canonical form, over the
contents reset gives (R61).
-/

namespace Sys2Proof.Machine

/-- R60: addresses 0 to 4095. -/
def memorySize : Nat := 4096

/-- Memory as the cells that differ from the reset contents, addresses strictly rising. -/
abbrev Memory := List Host.Cell

/-- What an address that is not listed reads as: the contents after reset of an empty image, FONT at 0..79 and 0 above
(R61, R270, R273). -/
def Memory.unlisted (font : Font) (a : Nat) : Byte := if h : a < 80 then font[a] else 0

/-- The canonical form: addresses strictly rising and inside 0..4095, no cell equal to what its address reads as unlisted. -/
abbrev Memory.wf (font : Font) (m : Memory) : Prop :=
  m.Pairwise (fun c d => c.1 < d.1) ∧ ∀ c ∈ m, c.1 < memorySize ∧ c.2 ≠ Memory.unlisted font c.1

/-- The byte at an address. -/
def Memory.read (font : Font) : Memory → Nat → Byte
  | [], a => Memory.unlisted font a
  | c :: m, a => if c.1 = a then c.2 else Memory.read font m a

/-- Put a cell before the first cell of a higher address. -/
def Memory.insert (c : Host.Cell) : Memory → Memory
  | [] => [c]
  | d :: m => if c.1 < d.1 then c :: d :: m else d :: Memory.insert c m

/-- Write one byte, keeping the canonical form. An address outside 0..4095 does not exist (R60, R62): nothing is written
there, and no rule writes there, since every rule checks its range first (R9, R63). -/
def Memory.write (font : Font) (m : Memory) (a : Nat) (b : Byte) : Memory :=
  if a < memorySize then
    let others := m.filter (fun c => c.1 != a)
    if b = Memory.unlisted font a then others else Memory.insert (a, b) others
  else m

/-- Write bytes at rising addresses from `a` (R173). -/
def Memory.writeAll (font : Font) : Memory → Nat → List Byte → Memory
  | m, _, [] => m
  | m, a, b :: bs => Memory.writeAll font (Memory.write font m a b) (a + 1) bs

end Sys2Proof.Machine
end

