-- ==== Sys2Proof/Machine/State.lean ====
section
/-!
DEFINITION. The machine's state, spec/10_state.md, the reasons it stops, and the state after reset.
-/

namespace Sys2Proof.Machine

/-- The five reasons of a fatal error (R34, R231). -/
inductive FatalReason where
  /-- decode of an illegal word (R87, R104) -/
  | unknownInstruction
  /-- CALL with SP = 15 (R124) -/
  | stackOverflow
  /-- RET with SP = -1 (R121) -/
  | stackUnderflow
  /-- an access outside 0..4095: fetch, DRW, Fx33, Fx55, Fx65, an over-long image (R231) -/
  | memoryOutOfBounds
  /-- Fx29 with Vx > 15 (R172) -/
  | invalidFontDigit
deriving DecidableEq, Repr

/-- The state tuple of spec/10_state.md, with the machine's settings and the model's draw counter. Plain data. It holds one
core's state and no other's (R253), and no reservation (R40, R72). -/
structure State where
  /-- V0..VF (R20) -/
  v : Vector Byte 16
  /-- the program counter (R23) -/
  pc : Word
  /-- the index register I (R25) -/
  i : Word
  /-- the return-address stack (R26) -/
  stack : Vector Word 16
  /-- SP, -1 empty to 15 full (R27) -/
  sp : Int
  /-- the delay timer DT (R29) -/
  dt : Byte
  /-- the sound timer ST (R30) -/
  st : Byte
  /-- the frame counter FC (R31) -/
  fc : Nat
  /-- Speed, 1..5 (R32) -/
  speed : Nat
  /-- the Paused latch (R33) -/
  paused : Bool
  /-- FaultReason (R34) -/
  faultReason : Option FatalReason
  /-- the 4096 bytes (R35), canonical over the reset contents -/
  mem : Memory
  /-- the framebuffer (R36) -/
  fb : Framebuffer
  /-- the pressed-key mask (R37) -/
  keys : BitVec 16
  /-- the pending press (R38) -/
  pending : Option Key
  /-- the machine's settings (R7); nothing changes them. The model's place for them: notes/assumptions/2.md -/
  config : Config
  /-- THE MODEL'S OWN: how many bytes of RNG were drawn (R152, D16): notes/assumptions/5.md -/
  rngDraws : Nat
deriving DecidableEq, Repr

/-- The reasons a step ends in a fault: none. The spec's only exceptional event, the fatal error, is a state the machine
goes on in (R100, R109, R232), so it is a next state: `FatalReason`, notes/assumptions/6.md. -/
inductive Fault where
deriving DecidableEq, Repr

/-- The reasons a step is refused. -/
inductive Refusal where
  /-- Raised by exec for an instruction that has no meaning yet; no arm of this model raises it. Safe. -/
  | notModelled (mnemonic : String)
deriving DecidableEq, Repr

/-- What a meaning answers. -/
abbrev Result := Host.Outcome State Fault Refusal

/-- The state `loadROM` of an empty image leaves, with the given settings and Speed: the power-on state (R270, R273). -/
def State.powerOn (config : Config) (speed : Nat) : State where
  v := Vector.replicate 16 0
  pc := 0x200
  i := 0
  stack := Vector.replicate 16 0
  sp := -1
  dt := 0
  st := 0
  fc := 0
  speed := speed
  paused := false
  faultReason := none
  mem := []
  fb := Framebuffer.blank
  keys := 0
  pending := none
  config := config
  rngDraws := 0

/-- The machine right after reset: power-on (R273) with the default settings of R7 and the named SPEED_INIT. -/
def State.reset : State := State.powerOn defaultConfig defaultSpeedInit

end Sys2Proof.Machine
end

