-- ==== Sys2Proof/Machine/Ops.lean ====
section
/-!
DEFINITION. The named operations over registers, memory, stack, timers, framebuffer and keypad, and entering the fatal state.
-/

namespace Sys2Proof.Machine

/-- `V[r]` (R9, R20). -/
def State.reg (s : State) (r : Reg) : Byte := s.v[r]

/-- `V[r] <- b` (R9, R20). -/
def State.setReg (s : State) (r : Reg) (b : Byte) : State := { s with v := s.v.set r b }

/-- `pc <- target` (R9). -/
def State.jumpTo (s : State) (target : Word) : State := { s with pc := target }

/-- `pc <- (pc + 2) mod 2^16` (R106, R110). -/
def State.advance (s : State) : State := s.jumpTo (s.pc + 2)

/-- A skip: pc + 4 when the condition holds, else pc + 2, modulo 2^16 (R106, R110). -/
def State.skipIf (s : State) (holds : Bool) : State := s.jumpTo (s.pc + if holds then 4 else 2)

/-- `I <- w` (R25). -/
def State.setIndex (s : State) (w : Word) : State := { s with i := w }

/-- `DT <- b` (R29). -/
def State.setDelay (s : State) (b : Byte) : State := { s with dt := b }

/-- `ST <- b` (R30). -/
def State.setSound (s : State) (b : Byte) : State := { s with st := b }

/-- `MemRead(a, 1)` (R9). -/
def State.readByte (s : State) (a : Nat) : Byte := s.mem.read s.config.font a

/-- `MemWrite(a, 1, b)` (R9). -/
def State.writeByte (s : State) (a : Nat) (b : Byte) : State := { s with mem := s.mem.write s.config.font a b }

/-- Bytes written one after another at rising addresses from `a` (R173). -/
def State.writeBytes (s : State) (a : Nat) (bs : List Byte) : State :=
  { s with mem := s.mem.writeAll s.config.font a bs }

/-- `V[k] <- MemRead(a + k, 1)` for k = 0 .. count-1, in that order (R176). -/
def State.loadRegs (s : State) (a : Nat) : Nat → State
  | 0 => s
  | k + 1 => (s.loadRegs a k).setReg (Fin.ofNat 16 k) (s.readByte (a + k))

/-- `V[0], ..., V[count-1]`, the bytes Fx55 stores in this order (R175). -/
def State.regList (s : State) : Nat → List Byte
  | 0 => []
  | k + 1 => s.regList k ++ [s.reg (Fin.ofNat 16 k)]

/-- The stack entry an SP names: SP's legal values are -1..15, and -1 names none (R27). -/
def stackEntry (sp : Int) : Option (Fin 16) :=
  if h : 0 ≤ sp ∧ sp < 16 then some ⟨sp.toNat, by omega⟩ else none

/-- `stack[SP]` (R26, R27). For an SP that names no entry, which no run reaches, 0: DESIGN CHOICE, notes/assumptions/11.md. -/
def State.stackTop (s : State) : Word :=
  match stackEntry s.sp with
  | some k => s.stack[k]
  | none => 0

/-- `SP <- SP + 1; stack[SP] <- w` (R124). -/
def State.push (s : State) (w : Word) : State :=
  { s with
    sp := s.sp + 1
    stack := match stackEntry (s.sp + 1) with
      | some k => s.stack.set k w
      | none => s.stack }

/-- `SP <- SP - 1`; the entry keeps its value (R28, R121). -/
def State.pop (s : State) : State := { s with sp := s.sp - 1 }

/-- Entering the fatal state (R232): Paused and FaultReason are set and nothing else changes. -/
def State.enterFatal (s : State) (r : FatalReason) : State := { s with paused := true, faultReason := some r }

/-- `raise Fatal(reason)` (R9, R232): what a meaning answers when one of its checks fails. There is no return from it but
`loadROM` (R235), which is `State.loadROM`. -/
def raiseFatal (r : FatalReason) (s : State) : Result := .next (s.enterFatal r)

/-- One draw of RNG (R152): the byte is `Config.rngByte` of the draw's number. -/
def State.drawnByte (s : State) : Byte := Config.rngByte s.rngDraws

/-- The draw is used up: the next one is a fresh free value. -/
def State.countDraw (s : State) : State := { s with rngDraws := s.rngDraws + 1 }

/-- A timer's decrement, saturating at 0 (R240). -/
def tickDown (b : Byte) : Byte := if b = 0 then 0 else b - 1

/-- TimerTick (R240). -/
def State.timerTick (s : State) : State := { s with dt := tickDown s.dt, st := tickDown s.st }

/-- clearScreen (R191). -/
def State.clearScreen (s : State) : State := { s with fb := Framebuffer.blank }

/-- drawPixel's write (R190). -/
def State.xorCell (s : State) (x : Fin 64) (y : Fin 32) (value : Bool) : State := { s with fb := s.fb.xorCell x y value }

/-- checkPressed (R220): no key has an index of 16 or more (D21). -/
def State.checkPressed (s : State) (k : Byte) : Bool := decide (k.toNat < 16) && s.keys.getLsbD k.toNat

/-- consumePendingPress's effect (R219); the press it returns is `State.pending` before it. -/
def State.consumePending (s : State) : State := { s with pending := none }

/-- The key Fx0A accepts (R212): the pending press, but not key 0 under KEY0_IS_NONE (D22). None is a stall. -/
def State.awaitedKey (s : State) : Option Key :=
  match s.pending with
  | some k => if s.config.key0IsNone && k == 0 then none else some k
  | none => none

end Sys2Proof.Machine
end

