-- ==== Sys2Proof/Machine/Flags.lean ====
section
/-!
DEFINITION. The flag VF, spec/10_state.md R39: the value each instruction gives it, and the order of result and flag
(spec/42_alu.md R140).
-/

namespace Sys2Proof.Machine

/-- A flag's byte: 1 or 0 (R39). -/
def flagByte (holds : Bool) : Byte := if holds then 1 else 0

/-- 8xy4: the exact sum is over 255 (R147). -/
def addCarry (a b : Byte) : Bool := decide (255 < a.toNat + b.toNat)

/-- 8xy5: Vx > Vy, strictly (R148). -/
def subFlag (a b : Byte) : Bool := decide (b.toNat < a.toNat)

/-- 8xy7: Vx < Vy, strictly (R150). -/
def subnFlag (a b : Byte) : Bool := decide (a.toNat < b.toNat)

/-- 8xy6: bit 0 before the shift (R149). -/
def shrFlag (a : Byte) : Bool := a.getLsbD 0

/-- 8xyE: bit 7 before the shift (R151). -/
def shlFlag (a : Byte) : Bool := a.getLsbD 7

/-- Write VF as a flag. -/
def State.setFlag (s : State) (holds : Bool) : State := s.setReg VF (flagByte holds)

/-- Vx first, VF second, so with x = F the flag stays (R140, D14). -/
def State.setResultAndFlag (s : State) (x : Reg) (result : Byte) (flag : Bool) : State :=
  (s.setReg x result).setFlag flag

end Sys2Proof.Machine
end

