-- ==== Sys2Proof/Machine/Alu.lean ====
section
/-!
DEFINITION. Register loads and arithmetic, spec/42_alu.md. BitVec 8 arithmetic is the rules' "mod 256" (R140, R153).
-/

namespace Sys2Proof.Machine

/-- LD Vx, nn (R141). -/
def execLdVxNn (x : Reg) (nn : Byte) (s : State) : Result := .next (s.setReg x nn).advance

/-- ADD Vx, nn (R142): no flag (D15). -/
def execAddVxNn (x : Reg) (nn : Byte) (s : State) : Result := .next (s.setReg x (s.reg x + nn)).advance

/-- LD Vx, Vy (R143, D12). -/
def execLdVxVy (x y : Reg) (s : State) : Result := .next (s.setReg x (s.reg y)).advance

/-- OR Vx, Vy (R144). -/
def execOr (x y : Reg) (s : State) : Result := .next (s.setReg x (s.reg x ||| s.reg y)).advance

/-- AND Vx, Vy (R145). -/
def execAnd (x y : Reg) (s : State) : Result := .next (s.setReg x (s.reg x &&& s.reg y)).advance

/-- XOR Vx, Vy (R146). -/
def execXor (x y : Reg) (s : State) : Result := .next (s.setReg x (s.reg x ^^^ s.reg y)).advance

/-- ADD Vx, Vy (R147). -/
def execAddVxVy (x y : Reg) (s : State) : Result :=
  .next (s.setResultAndFlag x (s.reg x + s.reg y) (addCarry (s.reg x) (s.reg y))).advance

/-- SUB Vx, Vy: Vx - Vy (R148). -/
def execSub (x y : Reg) (s : State) : Result :=
  .next (s.setResultAndFlag x (s.reg x - s.reg y) (subFlag (s.reg x) (s.reg y))).advance

/-- SHR Vx (R149): the y field is ignored. -/
def execShr (x _y : Reg) (s : State) : Result :=
  .next (s.setResultAndFlag x (s.reg x >>> 1) (shrFlag (s.reg x))).advance

/-- SUBN Vx, Vy: Vy - Vx (R150). -/
def execSubn (x y : Reg) (s : State) : Result :=
  .next (s.setResultAndFlag x (s.reg y - s.reg x) (subnFlag (s.reg x) (s.reg y))).advance

/-- SHL Vx (R151): the y field is ignored. -/
def execShl (x _y : Reg) (s : State) : Result :=
  .next (s.setResultAndFlag x (s.reg x <<< 1) (shlFlag (s.reg x))).advance

/-- RND Vx, nn (R152): the drawn byte is a free value (notes/assumptions/5.md). -/
def execRnd (x : Reg) (nn : Byte) (s : State) : Result := .next ((s.countDraw).setReg x (s.drawnByte &&& nn)).advance

end Sys2Proof.Machine
end

