-- ==== Sys2Proof/Machine/Operands.lean ====
section
/-!
DEFINITION. The operand forms: immediates, jump targets, address ranges, font addresses, decimal digits and sprite pixels.
Register operands are `State.reg` (Machine/Ops.lean).
-/

namespace Sys2Proof.Machine

/-- An address immediate, zero-extended to 16 bits (R82). -/
def addrOperand (nnn : Addr) : Word := nnn.setWidth 16

/-- The target of Bnnn: `nnn + V[0]`, not reduced modulo 4096 (R125). -/
def State.offsetTarget (s : State) (nnn : Addr) : Word := addrOperand nnn + (s.reg 0).setWidth 16

/-- The sum of Fx1E, modulo 2^16 (R171). -/
def State.indexSum (s : State) (x : Reg) : Word := s.i + (s.reg x).setWidth 16

/-- The base address of the instructions that reach memory: I as an exact integer (R62). -/
def State.base (s : State) : Nat := s.i.toNat

/-- CheckRange fails (R63): a range of k > 0 bytes from a leaves 0..4095. Exact arithmetic, no wrap (D5). -/
def rangeFaults (a k : Nat) : Bool := decide (0 < k) && decide (4095 < a + k - 1)

/-- The address of glyph d (R172). -/
def glyphAddress (d : Byte) : Word := BitVec.ofNat 16 (d.toNat * 5)

/-- The three digits Fx33 stores: hundreds, tens, units (R174). -/
def bcdDigits (v : Byte) : List Byte :=
  [BitVec.ofNat 8 (v.toNat / 100), BitVec.ofNat 8 (v.toNat / 10 % 10), BitVec.ofNat 8 (v.toNat % 10)]

/-- How many registers Fx55 and Fx65 move: x + 1 (R175, R176). -/
def regCount (x : Reg) : Nat := x.val + 1

/-- The bit of a sprite byte at a column: bit 7 is column 0 (R194). -/
def spriteBit (row : Byte) (col : Nat) : Bool := row.getLsbD (7 - col)

/-- The column a sprite column lands on (R192). -/
def pixelX (vx : Byte) (col : Nat) : Fin 64 := Fin.ofNat 64 (vx.toNat + col)

/-- The row a sprite row lands on (R192). -/
def pixelY (vy : Byte) (row : Nat) : Fin 32 := Fin.ofNat 32 (vy.toNat + row)

end Sys2Proof.Machine
end

