-- ==== Sys2Proof/Machine/Control.lean ====
section
/-!
DEFINITION. Control transfer and skips, spec/41_control_flow.md.
-/

namespace Sys2Proof.Machine

/-- RET (R121): underflow is checked first; the popped address is taken as it is (D11). -/
def execRet (s : State) : Result :=
  if s.sp = -1 then raiseFatal .stackUnderflow s else .next (s.jumpTo s.stackTop).pop

/-- SYS nnn (R122): pc ← nnn (the spec's decision D10, notes/assumptions/12.md). -/
def execSys (nnn : Addr) (s : State) : Result := .next (s.jumpTo (addrOperand nnn))

/-- JP nnn (R123). -/
def execJp (nnn : Addr) (s : State) : Result := .next (s.jumpTo (addrOperand nnn))

/-- CALL nnn (R124): overflow is checked first; pc + 2 is pushed (D11). -/
def execCall (nnn : Addr) (s : State) : Result :=
  if s.sp = 15 then raiseFatal .stackOverflow s else .next ((s.push (s.pc + 2)).jumpTo (addrOperand nnn))

/-- JP V0, nnn (R125). -/
def execJpV0 (nnn : Addr) (s : State) : Result := .next (s.jumpTo (s.offsetTarget nnn))

/-- SE Vx, nn (R126). -/
def execSeVxNn (x : Reg) (nn : Byte) (s : State) : Result := .next (s.skipIf (s.reg x == nn))

/-- SNE Vx, nn (R127). -/
def execSneVxNn (x : Reg) (nn : Byte) (s : State) : Result := .next (s.skipIf (s.reg x != nn))

/-- SE Vx, Vy (R128). -/
def execSeVxVy (x y : Reg) (s : State) : Result := .next (s.skipIf (s.reg x == s.reg y))

/-- SNE Vx, Vy (R129). -/
def execSneVxVy (x y : Reg) (s : State) : Result := .next (s.skipIf (s.reg x != s.reg y))

end Sys2Proof.Machine
end

