-- ==== Sys2Proof/Machine/Display.lean ====
section
/-!
DEFINITION. Display instructions, spec/44_display.md.
-/

namespace Sys2Proof.Machine

/-- Where a DRW takes its origin from: the registers as they stand at the pixel, or two bytes read before VF was cleared
(R192, D20). -/
inductive Origin where
  | live
  | fixed (vx vy : Byte)
deriving DecidableEq, Repr

/-- The origin the machine's DRAW_REG_READ gives this DRW, at the state before VF is cleared (R192). -/
def State.drawOrigin (s : State) (x y : Reg) : Origin :=
  match s.config.drawRegRead with
  | .live => .live
  | .snapshot => .fixed (s.reg x) (s.reg y)

/-- The origin's column byte at a pixel. -/
def Origin.column (o : Origin) (x : Reg) (s : State) : Byte :=
  match o with
  | .live => s.reg x
  | .fixed vx _ => vx

/-- The origin's row byte at a pixel. -/
def Origin.row (o : Origin) (y : Reg) (s : State) : Byte :=
  match o with
  | .live => s.reg y
  | .fixed _ vy => vy

/-- One drawPixel call of DRW and the flag it may set (R190, R192). -/
def State.drawBit (s : State) (o : Origin) (x y : Reg) (row col : Nat) (value : Bool) : State :=
  let px := pixelX (o.column x s) col
  let py := pixelY (o.row y s) row
  let drawn := s.xorCell px py value
  if s.fb.collides px py value then drawn.setFlag true else drawn

/-- Columns 0 .. count-1 of one sprite row, in that order (R192). -/
def State.drawCols (s : State) (o : Origin) (x y : Reg) (row : Nat) (byte : Byte) : Nat → State
  | 0 => s
  | col + 1 => (s.drawCols o x y row byte col).drawBit o x y row col (spriteBit byte col)

/-- Sprite rows 0 .. count-1 from I, in that order (R192). -/
def State.drawRows (s : State) (o : Origin) (x y : Reg) : Nat → State
  | 0 => s
  | row + 1 =>
    let t := s.drawRows o x y row
    t.drawCols o x y row (t.readByte (t.base + row)) 8

/-- DRW Vx, Vy, n (R192): the range is checked before anything, VF is cleared, then the rows are drawn. -/
def execDrw (x y : Reg) (n : Fin 16) (s : State) : Result :=
  if rangeFaults s.base n.val then raiseFatal .memoryOutOfBounds s
  else .next ((s.setFlag false).drawRows (s.drawOrigin x y) x y n.val).advance

/-- CLS (R193). -/
def execCls (s : State) : Result := .next s.clearScreen.advance

end Sys2Proof.Machine
end

