-- ==== Sys2Proof/Machine/Index.lean ====
section
/-!
DEFINITION. Index register, font, BCD and register-block instructions, spec/43_index_memory.md. The range check comes before
any byte or register is written (R107, R173), and none of the three memory instructions changes I (R173, D18).
-/

namespace Sys2Proof.Machine

/-- LD I, nnn (R170). -/
def execLdI (nnn : Addr) (s : State) : Result := .next (s.setIndex (addrOperand nnn)).advance

/-- ADD I, Vx (R171): modulo 2^16, no flag (D17). -/
def execAddIVx (x : Reg) (s : State) : Result := .next (s.setIndex (s.indexSum x)).advance

/-- LD F, Vx (R172). -/
def execLdFVx (x : Reg) (s : State) : Result :=
  if 15 < (s.reg x).toNat then raiseFatal .invalidFontDigit s
  else .next (s.setIndex (glyphAddress (s.reg x))).advance

/-- LD B, Vx (R174). -/
def execLdBVx (x : Reg) (s : State) : Result :=
  if rangeFaults s.base 3 then raiseFatal .memoryOutOfBounds s
  else .next (s.writeBytes s.base (bcdDigits (s.reg x))).advance

/-- LD [I], Vx (R175). -/
def execLdMemVx (x : Reg) (s : State) : Result :=
  if rangeFaults s.base (regCount x) then raiseFatal .memoryOutOfBounds s
  else .next (s.writeBytes s.base (s.regList (regCount x))).advance

/-- LD Vx, [I] (R176). -/
def execLdVxMem (x : Reg) (s : State) : Result :=
  if rangeFaults s.base (regCount x) then raiseFatal .memoryOutOfBounds s
  else .next (s.loadRegs s.base (regCount x)).advance

end Sys2Proof.Machine
end

