-- ==== Sys2Proof/Machine/KeysTimers.lean ====
section
/-!
DEFINITION. Keypad and timer instructions, spec/45_keys_timers.md.
-/

namespace Sys2Proof.Machine

/-- SKP Vx (R210). -/
def execSkp (x : Reg) (s : State) : Result := .next (s.skipIf (s.checkPressed (s.reg x)))

/-- SKNP Vx (R211). -/
def execSknp (x : Reg) (s : State) : Result := .next (s.skipIf (!s.checkPressed (s.reg x)))

/-- LD Vx, K (R212): with no key to accept, a stall: pc and Vx keep their values and the press, if any, is consumed. -/
def execLdVxK (x : Reg) (s : State) : Result :=
  match s.awaitedKey with
  | none => .next s.consumePending
  | some k => .next (s.consumePending.setReg x (BitVec.ofNat 8 k.val)).advance

/-- LD Vx, DT (R213). -/
def execLdVxDt (x : Reg) (s : State) : Result := .next (s.setReg x s.dt).advance

/-- LD DT, Vx (R214). -/
def execLdDtVx (x : Reg) (s : State) : Result := .next (s.setDelay (s.reg x)).advance

/-- LD ST, Vx (R215). -/
def execLdStVx (x : Reg) (s : State) : Result := .next (s.setSound (s.reg x)).advance

end Sys2Proof.Machine
end

