-- ==== Sys2Proof/Machine/Cycle.lean ====
section
/-!
DEFINITION. The `cycle` operation and the instruction step it calls, spec/40_execution_cycle.md R100 to R109.
-/

namespace Sys2Proof.Machine

/-- Fetch (R103): both bytes lie in 0..4095, or the fetch is Fatal(MemoryOutOfBounds). Any pc is aligned enough (R67). -/
def State.fetch (s : State) : Except FatalReason Word :=
  if 4095 < s.pc.toNat + 1 then .error .memoryOutOfBounds
  else .ok (wordOfBytes (s.readByte s.pc.toNat) (s.readByte (s.pc.toNat + 1)))

/-- Fetch, then decode (R104); the checks in this order (R234). -/
def State.fetchDecode (s : State) : Except FatalReason Instr :=
  match s.fetch with
  | .error r => .error r
  | .ok w =>
    match decode w with
    | .ok i => .ok i
    | .error .unknownInstruction => .error .unknownInstruction

/-- One instruction step: fetch, decode, execute (R104). -/
def State.runStep (s : State) : Result :=
  match s.fetchDecode with
  | .error r => raiseFatal r s
  | .ok i => exec i s

/-- `FC <- FC + 1` (R100). -/
def State.countFrame (s : State) : State := { s with fc := s.fc + 1 }

/-- What a cycle does before its step: count the frame, and tick the timers when `FC mod Speed == 0` (R100, R101, D32). -/
def State.beginCycle (s : State) : State :=
  if s.countFrame.fc % s.countFrame.speed = 0 then s.countFrame.timerTick else s.countFrame

/-- What a cycle does after its step, fatal or not: under on_step, `FC <- 0` (R100, D6, D7). -/
def State.endCycle (s : State) : State :=
  match s.config.tickReset with
  | .onStep => { s with fc := 0 }
  | .onTick => s

/-- A cycle's end after a step's answer. -/
def closeCycle : Result → Result
  | .next t => .next t.endCycle
  | .fault f => .fault f
  | .refused r => .refused r

/-- `cycle` (R100): frame and tick, then one step unless Paused. -/
def State.runCycle (s : State) : Result :=
  if s.beginCycle.paused then .next s.beginCycle else closeCycle s.beginCycle.runStep

/-- A word stored big-endian where the next fetch reads it (R65, R103). A fetch happens only while the machine is not Paused and
pc is at most 4094: where that fails, the latch is cleared and pc set to the load address 0x200. -/
def State.placeWord (s : State) (w : Word) : State :=
  let ready : State := if s.paused then { s with paused := false, faultReason := none } else s
  let placed : State := if 4094 < ready.pc.toNat then ready.jumpTo 0x200 else ready
  (placed.writeByte placed.pc.toNat (lowerAddressByte w)).writeByte (placed.pc.toNat + 1) (higherAddressByte w)

end Sys2Proof.Machine
end

