-- ==== Sys2Proof/Machine/Step.lean ====
section
/-!
DEFINITION. One step of the machine is one `cycle` call of the host (spec/40_execution_cycle.md R100, spec/60_exceptions.md
R245, R247): notes/assumptions/1.md. The other host operations are Machine/Transactions.lean.
-/

namespace Sys2Proof.Machine

/-- One `cycle` (R100), a function of this core's State alone: a core is self-contained (R72, R253). -/
def step (s : State) : Host.Outcome State Fault Refusal := s.runCycle

/-- `s` with the instruction whose bits are `w` (the bits above `nbits` zero) where the next step fetches:
notes/assumptions/8.md. -/
def State.withFetchWord (s : State) (nbits w : Nat) : State := s.placeWord (BitVec.ofNat 16 (w % 2 ^ nbits))

end Sys2Proof.Machine
end

