-- ==== Sys2Proof/Machine/Transactions.lean ====
section
/-!
DEFINITION. The block's interface: the operations of spec/60_exceptions.md R245, each one atomic transaction on the state.
-/

namespace Sys2Proof.Machine

/-- The program load address, and the most bytes an image may have (R61, R271). -/
def loadAddress : Nat := 0x200

/-- R271: the program area 0x200..0xFFF. -/
def maxImage : Nat := 3584

/-- The reset `loadROM` performs first (R270): everything but Speed (R274), the settings and the random source's position. -/
def State.resetForLoad (s : State) : State := { State.powerOn s.config s.speed with rngDraws := s.rngDraws }

/-- loadROM (R270, R271): reset, font, then the image, unless it is too long. -/
def State.loadROM (s : State) (bytes : List Byte) : State :=
  if maxImage < bytes.length then s.resetForLoad.enterFatal .memoryOutOfBounds
  else s.resetForLoad.writeBytes loadAddress bytes

/-- The mask of one key (R217, R218). -/
def keyMask (k : Nat) : BitVec 16 := 1#16 <<< k

/-- pressKey (R217). -/
def State.pressKey (s : State) (k : Nat) : State :=
  if h : k < 16 then { s with keys := s.keys ||| keyMask k, pending := some ⟨k, h⟩ } else s

/-- releaseKey (R218, D23). -/
def State.releaseKey (s : State) (k : Nat) : State :=
  if k < 16 then
    if s.config.releaseClearsAll then { s with keys := 0, pending := none }
    else { s with keys := s.keys &&& ~~~ keyMask k }
  else s

/-- speedUp (R249, D9). -/
def State.speedUp (s : State) : State := { s with speed := max 1 (s.speed - 1) }

/-- speedDown (R249, D9). -/
def State.speedDown (s : State) : State := { s with speed := min 5 (s.speed + 1) }

/-- hasSound (R242, R250): the block's sound output. -/
def State.hasSound (s : State) : Bool := s.st != 0

/-- What debugState dumps (R252); its text has no format (notes/assumptions/10.md). -/
structure DebugDump where
  v : Vector Byte 16
  pc : Word
  sp : Int
  i : Word
  st : Byte
deriving DecidableEq, Repr

/-- debugState (R252). -/
def State.debugState (s : State) : DebugDump := ⟨s.v, s.pc, s.sp, s.i, s.st⟩

/-- What `cycle` returns (R108). -/
inductive CycleResult where
  /-- an instruction completed -/
  | ok
  /-- Fx0A found no press to accept -/
  | stalled
  /-- the step raised a fatal error -/
  | fatal (r : FatalReason)
  /-- Paused was already true -/
  | idle
deriving DecidableEq, Repr

/-- The one instruction that can stall, and when (R108, R212). -/
def State.stallsOn (s : State) (i : Instr) : Bool :=
  match i with
  | .ldVxK _ => s.awaitedKey.isNone
  | _ => false

/-- What `cycle` returns for an instruction whose meaning answered: the fatal error it latched, Stalled or Ok. -/
def State.executed (s : State) (i : Instr) : Result → CycleResult
  | .next t =>
    match t.paused, t.faultReason with
    | true, some r => .fatal r
    | _, _ => if s.stallsOn i then .stalled else .ok
  | .fault f => nomatch f
  | .refused _ => .idle

/-- What `cycle` returns (R108), computed from the state it is called in: notes/assumptions/7.md. -/
def State.cycleResult (s : State) : CycleResult :=
  if s.beginCycle.paused then .idle
  else match s.beginCycle.fetchDecode with
    | .error r => .fatal r
    | .ok i => s.beginCycle.executed i (exec i s.beginCycle)

/-- `cycle`'s effect on the state (R100): the step's next state. -/
def State.cycled (s : State) : State :=
  match step s with
  | .next t => t
  | .fault f => nomatch f
  | .refused _ => s

/-- The operations of R245. A key index is any natural number (R217, notes/assumptions/9.md). -/
inductive Transaction where
  | loadROM (bytes : List Byte)
  | cycle
  | pressKey (k : Nat)
  | releaseKey (k : Nat)
  | getFramebuffer
  | hasSound
  | speedUp
  | speedDown
  | debugState
deriving DecidableEq, Repr

/-- What an operation returns (R245). -/
inductive Reply where
  | nothing
  | fatalError (r : FatalReason)
  | cycleReturned (r : CycleResult)
  | cells (framebuffer : List Bool)
  | sound (active : Bool)
  | dump (d : DebugDump)
deriving DecidableEq, Repr

/-- The state after an operation. -/
def State.after (s : State) : Transaction → State
  | .loadROM bytes => s.loadROM bytes
  | .cycle => s.cycled
  | .pressKey k => s.pressKey k
  | .releaseKey k => s.releaseKey k
  | .getFramebuffer => s
  | .hasSound => s
  | .speedUp => s.speedUp
  | .speedDown => s.speedDown
  | .debugState => s

/-- What an operation returns. -/
def State.reply (s : State) : Transaction → Reply
  | .loadROM bytes => if maxImage < bytes.length then .fatalError .memoryOutOfBounds else .nothing
  | .cycle => .cycleReturned s.cycleResult
  | .pressKey _ => .nothing
  | .releaseKey _ => .nothing
  | .getFramebuffer => .cells s.fb.rowMajor
  | .hasSound => .sound s.hasSound
  | .speedUp => .nothing
  | .speedDown => .nothing
  | .debugState => .dump s.debugState

/-- The state after a sequence of operations (R246: any order). -/
def State.afterAll (s : State) (ts : List Transaction) : State := ts.foldl State.after s

end Sys2Proof.Machine
end

