-- ==== Sys2Proof/Safety.lean ====
section
/-!
DEFINITION. What counts as a legal state and a safe run, in the terms the statements use.
-/

namespace Sys2Proof.Machine

/-- What an instruction does with data memory, the table of R66. There is no third use: no instruction is a
read-modify-write of memory, and State holds no reservation (R72). -/
inductive MemoryUse where
  /-- no data access -/
  | untouched
  /-- reads bytes and stores none: Dxyn, Fx65 -/
  | loads
  /-- stores bytes and reads none: Fx33, Fx55 -/
  | stores
deriving DecidableEq, Repr

/-- Each instruction's row of R66 (R72). That exec keeps to it is `exec_loads_store_nothing` and `exec_stores_read_nothing`
in Laws/MemoryUse.lean. -/
def memoryUse : Instr → MemoryUse
  | .drw _ _ _ | .ldVxMem _ => .loads
  | .ldBVx _ | .ldMemVx _ => .stores
  | .cls | .ret | .sys _ | .jp _ | .call _ | .seVxNn _ _ | .sneVxNn _ _ | .seVxVy _ _ | .ldVxNn _ _ | .addVxNn _ _
  | .ldVxVy _ _ | .or _ _ | .and _ _ | .xor _ _ | .addVxVy _ _ | .sub _ _ | .shr _ _ | .subn _ _ | .shl _ _
  | .sneVxVy _ _ | .ldI _ | .jpV0 _ | .rnd _ _ | .skp _ | .sknp _ | .ldVxDt _ | .ldVxK _ | .ldDtVx _ | .ldStVx _
  | .addIVx _ | .ldFVx _ => .untouched

/-- The states the spec says the machine can be in: memory canonical (so inside 0..4095), SP and Speed in their ranges
(R27, R32), FaultReason written together with Paused (R34), FC 0 between running cycles under on_step (R31, R100), and the
bounds of pc and the stacked return addresses that make pc arithmetic exact (R110). -/
structure State.Inv (s : State) : Prop where
  memory : Memory.wf s.config.font s.mem
  sp : -1 ≤ s.sp ∧ s.sp ≤ 15
  speed : 1 ≤ s.speed ∧ s.speed ≤ 5
  latch : s.paused = s.faultReason.isSome
  frame : s.config.tickReset = .onStep → s.paused = false → s.fc = 0
  pc : s.pc.toNat ≤ 0x10FE
  stack : ∀ k : Fin 16, s.stack[k].toNat ≤ 4096

/-- The state after `n` calls of `cycle`. -/
def State.afterCycles (s : State) : Nat → State
  | 0 => s
  | n + 1 => (s.afterCycles n).cycled

/-- A safe run: none of the next `n` cycles latches a fatal error, and the machine was not latched before. -/
def State.safeFor (s : State) (n : Nat) : Prop := ∀ k, k ≤ n → (s.afterCycles k).paused = false

/-- Every byte of memory reads the same (R69). -/
def State.sameBytes (s t : State) : Prop := ∀ a, t.readByte a = s.readByte a

/-- Every byte of memory outside the `k` bytes from `a` reads the same. -/
def State.sameBytesOutside (s t : State) (a k : Nat) : Prop :=
  ∀ b, (b < a ∨ a + k ≤ b) → t.readByte b = s.readByte b

/-- Every V register but those listed holds what it held. -/
def State.sameRegsBut (s t : State) (written : List Reg) : Prop := ∀ r, r ∉ written → t.reg r = s.reg r

/-- The frame of an instruction that writes the listed V registers and pc: every other register, every byte of memory and
every other field (I, stack, SP, timers, FC, Speed, Paused, FaultReason, framebuffer, keypad, settings, draws) is kept. -/
def State.keepsAllBut (s t : State) (written : List Reg) : Prop :=
  s.sameRegsBut t written ∧ s.sameBytes t ∧ t = { s with v := t.v, pc := t.pc }

/-- pc moved on by 2, modulo 2^16 (R106, R110). -/
def State.movedOn (s t : State) : Prop := t.pc.toNat = (s.pc.toNat + 2) % 2 ^ 16

/-- The state differs from `s` only by the latched fatal error (R232). -/
def State.fatalFrom (s t : State) (r : FatalReason) : Prop := t = { s with paused := true, faultReason := some r }

end Sys2Proof.Machine
end

