-- ==== Sys2Proof/Certificates/Slice0/Obligations.lean ====
section
/-!
DEFINITION. The statements for the provers, from the numbered rules of spec/. Where a statement follows a decision of the
spec's own (92_eei_decisions.md D<n>) or of the model (notes/assumptions/<n>.md), its docstring says so.
-/

open Sys2Proof Sys2Proof.Machine

namespace Sys2Proof.Claims

/-- The layouts of R83, written out: op and nnn; op, x and nn; op, x, y and a last digit. -/
def wordA (op : BitVec 4) (nnn : Addr) : Word := op ++ nnn
def wordXB (op : BitVec 4) (x : Reg) (nn : Byte) : Word := op ++ BitVec.ofNat 4 x.val ++ nn
def wordXY (op : BitVec 4) (x y : Reg) (last : BitVec 4) : Word := op ++ BitVec.ofNat 4 x.val ++ BitVec.ofNat 4 y.val ++ last

/-- The word at pc, high byte first (R65). -/
def wordAt (s : State) (a : Nat) : Nat := (s.readByte a).toNat * 256 + (s.readByte (a + 1)).toNat

/-- Key `k` is down: an index of 16 or more never is (R220, D21). -/
def keyDown (s : State) (k : Nat) : Bool := decide (k < 16) && s.keys.toNat.testBit k

/-- The fatal error an instruction raises in a state, the table of R231. -/
def faultOf (s : State) : Instr → Option FatalReason
  | .ret => if s.sp = -1 then some .stackUnderflow else none
  | .call _ => if s.sp = 15 then some .stackOverflow else none
  | .ldFVx x => if (s.reg x).toNat > 15 then some .invalidFontDigit else none
  | .drw _ _ n => if 0 < n.val ∧ s.i.toNat + n.val - 1 > 4095 then some .memoryOutOfBounds else none
  | .ldBVx _ => if s.i.toNat + 2 > 4095 then some .memoryOutOfBounds else none
  | .ldMemVx x => if s.i.toNat + x.val > 4095 then some .memoryOutOfBounds else none
  | .ldVxMem x => if s.i.toNat + x.val > 4095 then some .memoryOutOfBounds else none
  | .cls | .sys _ | .jp _ | .seVxNn _ _ | .sneVxNn _ _ | .seVxVy _ _ | .ldVxNn _ _ | .addVxNn _ _ | .ldVxVy _ _
  | .or _ _ | .and _ _ | .xor _ _ | .addVxVy _ _ | .sub _ _ | .shr _ _ | .subn _ _ | .shl _ _ | .sneVxVy _ _
  | .ldI _ | .jpV0 _ | .rnd _ _ | .skp _ | .sknp _ | .ldVxDt _ | .ldVxK _ | .ldDtVx _ | .ldStVx _ | .addIVx _ => none

/-- pc after normal completion, before the reduction modulo 2^16: the table of R106. -/
def pcAfter (s : State) : Instr → Nat
  | .sys nnn | .jp nnn | .call nnn => nnn.toNat
  | .jpV0 nnn => nnn.toNat + (s.reg 0).toNat
  | .ret => s.stackTop.toNat
  | .seVxNn x nn => s.pc.toNat + if s.reg x = nn then 4 else 2
  | .sneVxNn x nn => s.pc.toNat + if s.reg x ≠ nn then 4 else 2
  | .seVxVy x y => s.pc.toNat + if s.reg x = s.reg y then 4 else 2
  | .sneVxVy x y => s.pc.toNat + if s.reg x ≠ s.reg y then 4 else 2
  | .skp x => s.pc.toNat + if keyDown s (s.reg x).toNat then 4 else 2
  | .sknp x => s.pc.toNat + if keyDown s (s.reg x).toNat then 2 else 4
  | .ldVxK _ => s.pc.toNat + if s.awaitedKey.isSome then 2 else 0
  | .cls | .ldVxNn _ _ | .addVxNn _ _ | .ldVxVy _ _ | .or _ _ | .and _ _ | .xor _ _ | .addVxVy _ _ | .sub _ _
  | .shr _ _ | .subn _ _ | .shl _ _ | .ldI _ | .rnd _ _ | .drw _ _ _ | .ldVxDt _ | .ldDtVx _ | .ldStVx _
  | .addIVx _ | .ldFVx _ | .ldBVx _ | .ldMemVx _ | .ldVxMem _ => s.pc.toNat + 2

/-- The V registers an instruction may write (R22), VF as a flag among them (R39). -/
def regsWritten : Instr → List Reg
  | .ldVxNn x _ | .addVxNn x _ | .ldVxVy x _ | .or x _ | .and x _ | .xor x _ | .rnd x _ | .ldVxDt x | .ldVxK x => [x]
  | .addVxVy x _ | .sub x _ | .shr x _ | .subn x _ | .shl x _ => [x, VF]
  | .drw _ _ _ => [VF]
  | .ldVxMem x => (List.finRange 16).filter (fun r => r ≤ x)
  | .cls | .ret | .sys _ | .jp _ | .call _ | .seVxNn _ _ | .sneVxNn _ _ | .seVxVy _ _ | .sneVxVy _ _ | .ldI _
  | .jpV0 _ | .skp _ | .sknp _ | .ldDtVx _ | .ldStVx _ | .addIVx _ | .ldFVx _ | .ldBVx _ | .ldMemVx _ => []

/-- The first address and the number of the bytes an instruction stores (R66): the addresses its own check covers. -/
def bytesStored (s : State) : Instr → Nat × Nat
  | .ldBVx _ => (s.i.toNat, 3)
  | .ldMemVx x => (s.i.toNat, x.val + 1)
  | .cls | .ret | .sys _ | .jp _ | .call _ | .seVxNn _ _ | .sneVxNn _ _ | .seVxVy _ _ | .ldVxNn _ _ | .addVxNn _ _
  | .ldVxVy _ _ | .or _ _ | .and _ _ | .xor _ _ | .addVxVy _ _ | .sub _ _ | .shr _ _ | .subn _ _ | .shl _ _
  | .sneVxVy _ _ | .ldI _ | .jpV0 _ | .rnd _ _ | .drw _ _ _ | .skp _ | .sknp _ | .ldVxDt _ | .ldVxK _ | .ldDtVx _
  | .ldStVx _ | .addIVx _ | .ldFVx _ | .ldVxMem _ => (0, 0)

/-- The instructions that read the keypad (R105, R219, R220). -/
def readsKeypad : Instr → Bool
  | .skp _ | .sknp _ | .ldVxK _ => true
  | .cls | .ret | .sys _ | .jp _ | .call _ | .seVxNn _ _ | .sneVxNn _ _ | .seVxVy _ _ | .ldVxNn _ _ | .addVxNn _ _
  | .ldVxVy _ _ | .or _ _ | .and _ _ | .xor _ _ | .addVxVy _ _ | .sub _ _ | .shr _ _ | .subn _ _ | .shl _ _
  | .sneVxVy _ _ | .ldI _ | .jpV0 _ | .rnd _ _ | .drw _ _ _ | .ldVxDt _ | .ldDtVx _ | .ldStVx _ | .addIVx _
  | .ldFVx _ | .ldBVx _ | .ldMemVx _ | .ldVxMem _ => false

/-- A sprite with rows from `a` and its origin at column `ox`, row `oy` has a 1 bit on the cell (px, py) (R192, R194). -/
def spriteOn (s : State) (a ox oy n : Nat) (px : Fin 64) (py : Fin 32) : Prop :=
  ∃ row col, row < n ∧ col < 8 ∧ (ox + col) % 64 = px.val ∧ (oy + row) % 32 = py.val ∧
    (s.readByte (a + row)).toNat.testBit (7 - col) = true

/-- R192's two loops as one list of (row, col), in their order. -/
def drawOrder (n : Nat) : List (Nat × Nat) := (List.range n).flatMap (fun row => (List.range 8).map (fun col => (row, col)))

/-- One turn of R192's inner loop on the framebuffer and V, with Vx and Vy read live or taken from the snapshot. -/
def drawTurn (s : State) (x y : Reg) (m : Framebuffer × Vector Byte 16) (at_ : Nat × Nat) : Framebuffer × Vector Byte 16 :=
  let source := if s.config.drawRegRead = .live then m.2 else s.v
  let px : Fin 64 := Fin.ofNat 64 (source[x].toNat + at_.2)
  let py : Fin 32 := Fin.ofNat 32 (source[y].toNat + at_.1)
  let bit := (s.readByte (s.i.toNat + at_.1)).toNat.testBit (7 - at_.2)
  let old := m.1[py][px]
  if bit then (m.1.set py ((m.1[py]).set px (!old)), if old then m.2.set VF 1 else m.2) else m

/-- R192's loop from a cleared VF. -/
def drawLoop (s : State) (x y : Reg) (n : Nat) : Framebuffer × Vector Byte 16 :=
  (drawOrder n).foldl (drawTurn s x y) (s.fb, s.v.set VF 0)

end Sys2Proof.Claims

open Sys2Proof.Claims

/-! Encoding -/

/-- Words written out bit by bit from R83 and R85 decode to what they stand for, and words of R87's table are refused. -/
def Obligations.WrittenWordsDecodeAsTheTableSays : Prop :=
  decode 0b0000000011100000#16 = .ok .cls ∧
  decode 0b0000000011101110#16 = .ok .ret ∧
  decode 0b0000000011100001#16 = .ok (.sys 0x0E1) ∧
  decode 0b0010001100000001#16 = .ok (.call 0x301) ∧
  decode 0b0011011101000010#16 = .ok (.seVxNn 7 0x42) ∧
  decode 0b1000000100101110#16 = .ok (.shl 1 2) ∧
  decode 0b1011001111111111#16 = .ok (.jpV0 0x3FF) ∧
  decode 0b1101101010110010#16 = .ok (.drw 10 11 2) ∧
  decode 0b1110000110100001#16 = .ok (.sknp 1) ∧
  decode 0b1111111101100101#16 = .ok (.ldVxMem 15) ∧
  decode 0b1000000100101000#16 = .error .unknownInstruction ∧
  decode 0b0101000100100001#16 = .error .unknownInstruction

/-- Decoding an encoded well-formed instruction gives it back, every operand at every value (R83, R85, R89). -/
def Obligations.DecodeOfEncodeIsTheInstruction : Prop :=
  ∀ i : Instr, i.wellFormed = true → decode (encode i) = .ok i

/-- Each word has one meaning: what a word decodes to is well formed and encodes to that word alone (R85, R88). -/
def Obligations.DecodedInstructionEncodesToItsWord : Prop :=
  ∀ (w : Word) (i : Instr), decode w = .ok i → i.wellFormed = true ∧ encode i = w

/-- R84 with the precedence of R86: the words of rows 1 and 2 decode as CLS and RET; of rows 3 to 35 at most one selects a word,
and every other word decodes by that row. -/
def Obligations.AtMostOneRowMatchesAWord : Prop :=
  decode 0x00E0 = .ok .cls ∧ decode 0x00EE = .ok .ret ∧
  ∀ (w : Word) (j k : Nat) (r q : OpcodeRow), opcodeRows[j]? = some r → opcodeRows[k]? = some q →
    w &&& r.mask = r.pattern → w &&& q.mask = q.pattern →
      j = k ∧ (w ≠ 0x00E0 → w ≠ 0x00EE → decode w = .ok (r.build w))

/-- R87's table: the words of groups 5, 8, 9, E and F that no pattern matches are refused, and no other word is. -/
def Obligations.RefusedWordsAreTheIllegalSpace : Prop :=
  ∀ w : Word, decode w = .error .unknownInstruction ↔
    ((w.toNat / 4096 = 5 ∨ w.toNat / 4096 = 9) ∧ w.toNat % 16 ≠ 0) ∨
    (w.toNat / 4096 = 8 ∧ w.toNat % 16 ∈ [8, 9, 10, 11, 12, 13, 15]) ∨
    (w.toNat / 4096 = 14 ∧ w.toNat % 256 ∉ [0x9E, 0xA1]) ∨
    (w.toNat / 4096 = 15 ∧ w.toNat % 256 ∉ [0x07, 0x0A, 0x15, 0x18, 0x1E, 0x29, 0x33, 0x55, 0x65])

/-! The cycle -/

/-- A step of a machine that is not Paused runs the instruction its two bytes at pc decode to (R65, R103, R104): exec of it at
the state after the frame count and the tick, then the cycle's end. -/
def Obligations.StepRunsTheDecodedInstruction : Prop :=
  ∀ (s : State) (i : Instr), s.paused = false → s.pc.toNat + 1 ≤ 4095 →
    decode (BitVec.ofNat 16 (wordAt s s.pc.toNat)) = .ok i →
      step s = closeCycle (exec i s.beginCycle) ∧
      ∀ t, exec i s.beginCycle = .next t → step s = .next t.endCycle

/-- R103, R104, R87, R233: a fetch past 4095 (the bound is the spec's D4) and an illegal word are fatal with their own reasons, the
fetch checked first, and change nothing but the latch, FC and the timers. -/
def Obligations.UnfetchableOrIllegalWordIsFatal : Prop :=
  ∀ s : State, s.paused = false →
    (4095 < s.pc.toNat + 1 →
      ∃ t, step s = .next t ∧ t.paused = true ∧ t.faultReason = some .memoryOutOfBounds ∧
        t = { s with paused := true, faultReason := t.faultReason, fc := t.fc, dt := s.beginCycle.dt,
                     st := s.beginCycle.st }) ∧
    (s.pc.toNat + 1 ≤ 4095 → decode (BitVec.ofNat 16 (wordAt s s.pc.toNat)) = .error .unknownInstruction →
      ∃ t, step s = .next t ∧ t.paused = true ∧ t.faultReason = some .unknownInstruction ∧
        t = { s with paused := true, faultReason := t.faultReason, fc := t.fc, dt := s.beginCycle.dt,
                     st := s.beginCycle.st })

/-- R240 as `cycle` performs it (R100): every step begins with it, Paused or not: FC counts, and the timers go down, never
below zero, exactly when FC mod Speed is 0. The tick comes before the instruction (the spec's D32) and also while Paused (D26). -/
def Obligations.TimersTickWhenFrameCounterIsDue : Prop :=
  ∀ s : State,
    step s = (if s.paused then .next s.beginCycle else closeCycle s.beginCycle.runStep) ∧
    s.beginCycle.fc = s.fc + 1 ∧
    ((s.fc + 1) % s.speed = 0 →
      s.beginCycle.dt.toNat = s.dt.toNat - 1 ∧ s.beginCycle.st.toNat = s.st.toNat - 1) ∧
    ((s.fc + 1) % s.speed ≠ 0 → s.beginCycle.dt = s.dt ∧ s.beginCycle.st = s.st) ∧
    s.beginCycle = { s with fc := s.fc + 1, dt := s.beginCycle.dt, st := s.beginCycle.st }

/-- The spec's decisions D6 and D7: under on_step a cycle that runs a step ends with FC = 0, fatal or not; under on_tick, and
while Paused, FC has grown by one. -/
def Obligations.FrameCounterAfterACycle : Prop :=
  ∀ s t : State, step s = .next t →
    (s.paused = false → s.config.tickReset = .onStep → t.fc = 0) ∧
    (s.paused = true ∨ s.config.tickReset = .onTick → t.fc = s.fc + 1)

/-- R241, first two rows, from the legal states of a running machine under on_step: a tick in every cycle at Speed 1, and none at
Speed 2 or more. -/
def Obligations.RunningTicksOnlyAtSpeedOne : Prop :=
  ∀ s : State, s.Inv → s.config.tickReset = .onStep → s.paused = false →
    (s.speed = 1 → s.beginCycle.dt.toNat = s.dt.toNat - 1 ∧ s.beginCycle.st.toNat = s.st.toNat - 1) ∧
    (2 ≤ s.speed → s.beginCycle.dt = s.dt ∧ s.beginCycle.st = s.st)

/-- R241, third row, and R109 (the spec's D26): n cycles of a Paused machine tick once every Speed cycles and change nothing but
FC and the timers. -/
def Obligations.PausedCyclesTickEverySpeedCycles : Prop :=
  ∀ (s : State) (n : Nat), s.paused = true →
    (s.afterCycles n).fc = s.fc + n ∧
    (s.afterCycles n).dt.toNat = s.dt.toNat - ((s.fc + n) / s.speed - s.fc / s.speed) ∧
    (s.afterCycles n).st.toNat = s.st.toNat - ((s.fc + n) / s.speed - s.fc / s.speed) ∧
    s.afterCycles n =
      { s with fc := (s.afterCycles n).fc, dt := (s.afterCycles n).dt, st := (s.afterCycles n).st }

/-- A step always answers a next state: a fatal error is a state the machine goes on in (R109, R232), and every instruction
has a meaning in every state (notes/assumptions/6.md). -/
def Obligations.EveryStepAnswersANextState : Prop :=
  (∀ s : State, ∃ t, step s = .next t) ∧ ∀ (i : Instr) (s : State), ∃ t, exec i s = .next t

/-- What `cycle` returns (R108, the spec's D25), by the state it leaves: Idle exactly when it was Paused, Fatal(reason) exactly
when it latched, Stalled exactly when Fx0A had no key to accept, else Ok. -/
def Obligations.CycleReturnsWhatItDid : Prop :=
  ∀ s t : State, step s = .next t →
    (s.cycleResult = .idle ↔ s.paused = true) ∧
    (∀ r, s.cycleResult = .fatal r ↔ s.paused = false ∧ t.paused = true ∧ t.faultReason = some r) ∧
    (s.cycleResult = .stalled ↔
      s.paused = false ∧ (∃ x, s.beginCycle.fetchDecode = .ok (.ldVxK x)) ∧ s.awaitedKey = none)

/-! Fatal errors -/

/-- The fatal error of each instruction is the one of R231's table, its own check being the only one (R234), and it changes
Paused and FaultReason alone (R232); where the check passes, Paused and FaultReason stay (R33, R34). -/
def Obligations.InstructionsRaiseExactlyTheirFatalError : Prop :=
  ∀ (i : Instr) (s : State), ∃ t, exec i s = .next t ∧
    (∀ r, faultOf s i = some r → s.fatalFrom t r) ∧
    (faultOf s i = none → t.paused = s.paused ∧ t.faultReason = s.faultReason)

/-- R233: after a cycle that raised a fatal error, every piece of state but Paused, FaultReason, FC and the timers is as before
it, and pc is the address of the faulting instruction. -/
def Obligations.FatalErrorsArePrecise : Prop :=
  ∀ s t : State, s.paused = false → step s = .next t → t.paused = true →
    ∃ r, t = { s with paused := true, faultReason := some r, fc := t.fc, dt := s.beginCycle.dt, st := s.beginCycle.st }

/-- R33, R235: once set, Paused and FaultReason stay through every sequence of host operations without loadROM, and no
instruction runs: registers, pc, I, stack, memory, framebuffer and random source keep their values. -/
def Obligations.PausedStopsExecutionUntilLoadROM : Prop :=
  ∀ (s : State) (ops : List Transaction), s.paused = true → (∀ bytes, Transaction.loadROM bytes ∉ ops) →
    s.afterAll ops =
      { s with
        fc := (s.afterAll ops).fc, dt := (s.afterAll ops).dt, st := (s.afterAll ops).st, speed := (s.afterAll ops).speed,
        keys := (s.afterAll ops).keys, pending := (s.afterAll ops).pending }

/-! Invariants and whole-machine rules -/

/-- The machine right after reset is in a legal state (Speed there is the model's choice: notes/assumptions/3.md). -/
def Obligations.ResetStateIsLegal : Prop := State.reset.Inv

/-- Every step from a legal state ends in a legal state: memory canonical, SP in -1..15 (R27), Speed in 1..5 (R32), FaultReason
held exactly with Paused (R34), FC 0 between running cycles under on_step (R31), pc at most 0x10FE and every return address
at most 4096 (R110). -/
def Obligations.EveryStepKeepsTheStateLegal : Prop :=
  ∀ s t : State, s.Inv → step s = .next t → t.Inv

/-- So does every sequence of host operations, in any order (R246). -/
def Obligations.EveryHostSequenceKeepsTheStateLegal : Prop :=
  ∀ (s : State) (ops : List Transaction), s.Inv → (s.afterAll ops).Inv

/-- Who writes what (R22, R25, R26, R29, R30, R36, R38, R66): each field but pc and the latch, which PcAfterEveryInstruction and
InstructionsRaiseExactlyTheirFatalError speak of, is kept by every instruction the spec does not name as its writer, in every
state. -/
def Obligations.OnlyTheNamedInstructionsWriteEachRegister : Prop :=
  ∀ (i : Instr) (s t : State), exec i s = .next t →
    s.sameRegsBut t (regsWritten i) ∧
    s.sameBytesOutside t (bytesStored s i).1 (bytesStored s i).2 ∧
    ((∀ nnn, i ≠ .ldI nnn) → (∀ x, i ≠ .addIVx x) → (∀ x, i ≠ .ldFVx x) → t.i = s.i) ∧
    ((∀ nnn, i ≠ .call nnn) → t.stack = s.stack ∧ (i ≠ .ret → t.sp = s.sp)) ∧
    ((∀ x, i ≠ .ldDtVx x) → t.dt = s.dt) ∧
    ((∀ x, i ≠ .ldStVx x) → t.st = s.st) ∧
    (i ≠ .cls → (∀ x y n, i ≠ .drw x y n) → t.fb = s.fb) ∧
    ((∀ x, i ≠ .ldVxK x) → t.pending = s.pending) ∧
    ((∀ x nn, i ≠ .rnd x nn) → t.rngDraws = s.rngDraws) ∧
    t.fc = s.fc ∧ t.speed = s.speed ∧ t.keys = s.keys ∧ t.config = s.config

/-- pc after every instruction: R106's table on normal completion, unchanged when a fatal error is raised (R107, R112). SYS's
target and CALL's return address are the spec's decisions D10 and D11. -/
def Obligations.PcAfterEveryInstruction : Prop :=
  ∀ (i : Instr) (s t : State), exec i s = .next t →
    (faultOf s i = none → t.pc.toNat = pcAfter s i % 2 ^ 16) ∧ (faultOf s i ≠ none → t.pc = s.pc)

/-- R105, R219, R220: an instruction other than Ex9E, ExA1 and Fx0A does the same whatever the keypad holds, and leaves it. -/
def Obligations.OnlyKeyInstructionsDependOnTheKeypad : Prop :=
  ∀ (i : Instr) (s t : State) (keys : BitVec 16) (pending : Option Key), readsKeypad i = false → exec i s = .next t →
    exec i { s with keys := keys, pending := pending } = .next { t with keys := keys, pending := pending }

/-- R31, R32, R243: no instruction can read ST, FC or Speed: with other values of them each does the same to all the rest, leaves
FC and Speed alone, and only Fx18 gives ST a value, the same one. -/
def Obligations.NoInstructionReadsSoundTimerFrameCounterOrSpeed : Prop :=
  ∀ (i : Instr) (s t : State) (st : Byte) (fc speed : Nat), exec i s = .next t →
    exec i { s with st := st, fc := fc, speed := speed } =
      .next { t with st := (if ∃ x, i = .ldStVx x then t.st else st), fc := fc, speed := speed }

/-! Memory -/

/-- The canonical form is canonical: two memories of that form that read the same everywhere are the same data. -/
def Obligations.CanonicalMemoriesThatReadAlikeAreEqual : Prop :=
  ∀ (font : Font) (m n : Memory), Memory.wf font m → Memory.wf font n →
    (∀ a, Memory.read font m a = Memory.read font n a) → m = n

/-- The spec's D29 (R73): a byte stored where pc points is in the very next fetch, as the high byte or the low byte of the word. -/
def Obligations.StoredByteIsSeenByTheNextFetch : Prop :=
  ∀ (s : State) (b : Byte), s.pc.toNat + 1 ≤ 4095 →
    (s.writeByte s.pc.toNat b).fetch = .ok (BitVec.ofNat 16 (b.toNat * 256 + (s.readByte (s.pc.toNat + 1)).toNat)) ∧
    (s.writeByte (s.pc.toNat + 1) b).fetch = .ok (BitVec.ofNat 16 ((s.readByte s.pc.toNat).toNat * 256 + b.toNat))

/-! Control transfer -/

/-- R123, R125: JP sets pc to nnn and JP V0 to nnn + V0, not reduced modulo 4096; nothing else changes. -/
def Obligations.JumpsSetOnlyPc : Prop :=
  ∀ (s : State) (nnn : Addr),
    decode (wordA 0x1 nnn) = .ok (.jp nnn) ∧ decode (wordA 0xB nnn) = .ok (.jpV0 nnn) ∧
    (∃ t, exec (.jp nnn) s = .next t ∧ t.pc.toNat = nnn.toNat ∧ t = { s with pc := t.pc } ∧ s.sameBytes t) ∧
    (∃ t, exec (.jpV0 nnn) s = .next t ∧ t.pc.toNat = nnn.toNat + (s.reg 0).toNat ∧ t = { s with pc := t.pc } ∧
      s.sameBytes t)

/-- The spec's decision D10 (notes/assumptions/12.md): SYS nnn sets pc to nnn and nothing else. -/
def Obligations.SysSetsOnlyPc : Prop :=
  ∀ (s : State) (nnn : Addr), ∃ t, exec (.sys nnn) s = .next t ∧ t.pc.toNat = nnn.toNat ∧ t = { s with pc := t.pc } ∧
    s.sameBytes t

/-- R124 (the return address pc + 2 is the spec's D11): CALL with SP = 15 is Fatal(StackOverflow); from every other legal SP
it pushes and jumps, and no other stack entry changes. -/
def Obligations.CallPushesAndJumpsOrOverflows : Prop :=
  ∀ (s : State) (nnn : Addr),
    (s.sp = 15 → ∃ t, exec (.call nnn) s = .next t ∧ s.fatalFrom t .stackOverflow) ∧
    (-1 ≤ s.sp → s.sp < 15 → ∃ t, exec (.call nnn) s = .next t ∧ t.sp = s.sp + 1 ∧ t.pc.toNat = nnn.toNat ∧
      (∀ k : Fin 16, ((k.val : Int) = s.sp + 1 → t.stack[k].toNat = (s.pc.toNat + 2) % 2 ^ 16) ∧
        ((k.val : Int) ≠ s.sp + 1 → t.stack[k] = s.stack[k])) ∧
      t = { s with pc := t.pc, sp := t.sp, stack := t.stack } ∧ s.sameBytes t)

/-- R121 (nothing is added to the popped address, and its entry keeps its value: the spec's D11): RET with SP = -1 is
Fatal(StackUnderflow); from every other legal SP pc takes stack[SP] and SP goes down. -/
def Obligations.RetPopsOrUnderflows : Prop :=
  ∀ s : State,
    (s.sp = -1 → ∃ t, exec .ret s = .next t ∧ s.fatalFrom t .stackUnderflow) ∧
    (∀ k : Fin 16, s.sp = (k.val : Int) → ∃ t, exec .ret s = .next t ∧ t.pc = s.stack[k] ∧ t.sp = s.sp - 1 ∧
      t = { s with pc := t.pc, sp := t.sp } ∧ s.sameBytes t)

/-- R130: a CALL at A <= 4094, then with no other stack operation a RET, returns to A + 2 with SP as before the CALL. -/
def Obligations.RetAfterCallReturnsBehindTheCall : Prop :=
  ∀ (s : State) (nnn : Addr), -1 ≤ s.sp → s.sp < 15 → s.pc.toNat ≤ 4094 →
    ∃ t, exec (.call nnn) s = .next t ∧
      ∀ u : State, u.stack = t.stack → u.sp = t.sp →
        ∃ w, exec .ret u = .next w ∧ w.pc.toNat = s.pc.toNat + 2 ∧ w.sp = s.sp

/-- R126 to R129: the four compare-and-skip instructions move pc by 4 when their condition holds, else by 2, modulo 2^16, and
change nothing else. -/
def Obligations.CompareSkipsMovePcByFourOrTwo : Prop :=
  ∀ (s : State) (x y : Reg) (nn : Byte),
    (decode (wordXB 0x3 x nn) = .ok (.seVxNn x nn) ∧ decode (wordXB 0x4 x nn) = .ok (.sneVxNn x nn) ∧
      decode (wordXY 0x5 x y 0x0) = .ok (.seVxVy x y) ∧ decode (wordXY 0x9 x y 0x0) = .ok (.sneVxVy x y) ∧
      ∀ last : BitVec 4, last ≠ 0 → decode (wordXY 0x5 x y last) = .error .unknownInstruction ∧
        decode (wordXY 0x9 x y last) = .error .unknownInstruction) ∧
    (∃ t, exec (.seVxNn x nn) s = .next t ∧
      t.pc.toNat = (s.pc.toNat + if (s.reg x).toNat = nn.toNat then 4 else 2) % 2 ^ 16 ∧ t = { s with pc := t.pc } ∧
      s.sameBytes t) ∧
    (∃ t, exec (.sneVxNn x nn) s = .next t ∧
      t.pc.toNat = (s.pc.toNat + if (s.reg x).toNat ≠ nn.toNat then 4 else 2) % 2 ^ 16 ∧ t = { s with pc := t.pc } ∧
      s.sameBytes t) ∧
    (∃ t, exec (.seVxVy x y) s = .next t ∧
      t.pc.toNat = (s.pc.toNat + if (s.reg x).toNat = (s.reg y).toNat then 4 else 2) % 2 ^ 16 ∧
      t = { s with pc := t.pc } ∧ s.sameBytes t) ∧
    (∃ t, exec (.sneVxVy x y) s = .next t ∧
      t.pc.toNat = (s.pc.toNat + if (s.reg x).toNat ≠ (s.reg y).toNat then 4 else 2) % 2 ^ 16 ∧
      t = { s with pc := t.pc } ∧ s.sameBytes t)

/-- R210, R211: the key skips; an index of 16 or more is never pressed, the spec's D21. -/
def Obligations.KeySkipsTestTheNamedKey : Prop :=
  ∀ (s : State) (x : Reg),
    (∃ t, exec (.skp x) s = .next t ∧
      t.pc.toNat = (s.pc.toNat + if keyDown s (s.reg x).toNat then 4 else 2) % 2 ^ 16 ∧ t = { s with pc := t.pc } ∧
      s.sameBytes t) ∧
    (∃ t, exec (.sknp x) s = .next t ∧
      t.pc.toNat = (s.pc.toNat + if keyDown s (s.reg x).toNat then 2 else 4) % 2 ^ 16 ∧ t = { s with pc := t.pc } ∧
      s.sameBytes t)

/-! Loads and arithmetic -/

/-- R141, R170: LD Vx, nn and LD I, nnn load their immediate and change nothing else but pc. -/
def Obligations.ImmediateLoadsWriteTheirRegister : Prop :=
  (∀ (s : State) (x : Reg) (nn : Byte), decode (wordXB 0x6 x nn) = .ok (.ldVxNn x nn) ∧
    ∃ t, exec (.ldVxNn x nn) s = .next t ∧ t.reg x = nn ∧ s.movedOn t ∧ s.keepsAllBut t [x]) ∧
  (∀ (s : State) (nnn : Addr), decode (wordA 0xA nnn) = .ok (.ldI nnn) ∧ ∃ t, exec (.ldI nnn) s = .next t ∧ t.i.toNat = nnn.toNat ∧ s.movedOn t ∧
    t = { s with i := t.i, pc := t.pc } ∧ s.sameBytes t)

/-- R142 and R171, sums that wrap without a flag (the spec's D15, D17), and R143, the copy (the spec's D12). -/
def Obligations.FlaglessSumsAndCopyWriteOneRegister : Prop :=
  ∀ (s : State) (x y : Reg) (nn : Byte),
    (∃ t, exec (.addVxNn x nn) s = .next t ∧ (t.reg x).toNat = ((s.reg x).toNat + nn.toNat) % 256 ∧ s.movedOn t ∧
      s.keepsAllBut t [x]) ∧
    (∃ t, exec (.ldVxVy x y) s = .next t ∧ t.reg x = s.reg y ∧ s.movedOn t ∧ s.keepsAllBut t [x]) ∧
    (∃ t, exec (.addIVx x) s = .next t ∧ t.i.toNat = (s.i.toNat + (s.reg x).toNat) % 2 ^ 16 ∧ s.movedOn t ∧
      t = { s with i := t.i, pc := t.pc } ∧ s.sameBytes t)

/-- R144, R145, R146: each bit of Vx is the OR, AND, XOR of the old bits; VF is written only when x = F names it. -/
def Obligations.BitwiseOpsCombineEachBit : Prop :=
  ∀ (s : State) (x y : Reg),
    (decode (wordXY 0x8 x y 0x1) = .ok (.or x y) ∧ decode (wordXY 0x8 x y 0x2) = .ok (.and x y) ∧
      decode (wordXY 0x8 x y 0x3) = .ok (.xor x y)) ∧
    (∃ t, exec (.or x y) s = .next t ∧
      (∀ k, (t.reg x).toNat.testBit k = ((s.reg x).toNat.testBit k || (s.reg y).toNat.testBit k)) ∧ s.movedOn t ∧
      s.keepsAllBut t [x]) ∧
    (∃ t, exec (.and x y) s = .next t ∧
      (∀ k, (t.reg x).toNat.testBit k = ((s.reg x).toNat.testBit k && (s.reg y).toNat.testBit k)) ∧ s.movedOn t ∧
      s.keepsAllBut t [x]) ∧
    (∃ t, exec (.xor x y) s = .next t ∧
      (∀ k, (t.reg x).toNat.testBit k = ((s.reg x).toNat.testBit k ^^ (s.reg y).toNat.testBit k)) ∧ s.movedOn t ∧
      s.keepsAllBut t [x])

/-- R147: ADD Vx, Vy. With x = F the flag is what VF holds afterwards, the spec's D14 (R140). -/
def Obligations.AddWritesSumAndCarry : Prop :=
  ∀ (s : State) (x y : Reg), ∃ t, exec (.addVxVy x y) s = .next t ∧
    (t.reg VF).toNat = (if (s.reg x).toNat + (s.reg y).toNat > 255 then 1 else 0) ∧
    (x ≠ VF → (t.reg x).toNat = ((s.reg x).toNat + (s.reg y).toNat) % 256) ∧ s.movedOn t ∧ s.keepsAllBut t [x, VF]

/-- R148, R150: SUB and SUBN, the differences modulo 256 (the spec's D13) and the strict comparisons; with x = F the flag
stays (D14). -/
def Obligations.SubtractionsWrapAndCompareStrictly : Prop :=
  ∀ (s : State) (x y : Reg),
    (∃ t, exec (.sub x y) s = .next t ∧ (t.reg VF).toNat = (if (s.reg x).toNat > (s.reg y).toNat then 1 else 0) ∧
      (x ≠ VF → ((t.reg x).toNat : Int) = ((s.reg x).toNat - (s.reg y).toNat : Int) % 256) ∧ s.movedOn t ∧
      s.keepsAllBut t [x, VF]) ∧
    (∃ t, exec (.subn x y) s = .next t ∧ (t.reg VF).toNat = (if (s.reg x).toNat < (s.reg y).toNat then 1 else 0) ∧
      (x ≠ VF → ((t.reg x).toNat : Int) = ((s.reg y).toNat - (s.reg x).toNat : Int) % 256) ∧ s.movedOn t ∧
      s.keepsAllBut t [x, VF])

/-- R149, R151: SHR and SHL by one, the bit shifted out in VF; Vy is not read (whatever y is, the answer is the same); with
x = F the flag stays (the spec's D14), and SHL's result is modulo 256 (D13). -/
def Obligations.ShiftsMoveOneBitIntoVF : Prop :=
  ∀ (s : State) (x y y' : Reg),
    (∃ t, exec (.shr x y) s = .next t ∧ exec (.shr x y') s = .next t ∧ (t.reg VF).toNat = (s.reg x).toNat % 2 ∧
      (x ≠ VF → (t.reg x).toNat = (s.reg x).toNat / 2) ∧ s.movedOn t ∧ s.keepsAllBut t [x, VF]) ∧
    (∃ t, exec (.shl x y) s = .next t ∧ exec (.shl x y') s = .next t ∧ (t.reg VF).toNat = (s.reg x).toNat / 128 ∧
      (x ≠ VF → (t.reg x).toNat = (s.reg x).toNat * 2 % 256) ∧ s.movedOn t ∧ s.keepsAllBut t [x, VF])

/-- R152 (an arbitrary byte a draw: the spec's D16, notes/assumptions/5.md): Vx is the drawn byte ANDed with nn, whatever the byte
is; bits outside nn are 0, the draw is used up, and nothing else but pc changes. -/
def Obligations.RandomByteIsMaskedAndDrawnOnce : Prop :=
  ∀ (s : State) (x : Reg) (nn : Byte), ∃ t, exec (.rnd x nn) s = .next t ∧
    t.reg x = Config.rngByte s.rngDraws &&& nn ∧ (∀ k, nn.getLsbD k = false → (t.reg x).getLsbD k = false) ∧
    t.rngDraws = s.rngDraws + 1 ∧ s.movedOn t ∧ s.sameRegsBut t [x] ∧ s.sameBytes t ∧
    t = { s with v := t.v, pc := t.pc, rngDraws := t.rngDraws }

/-! Index register and memory -/

/-- R172: LD F, Vx: the glyph's address, or Fatal(InvalidFontDigit) above 15. -/
def Obligations.LoadFontAddressOrInvalidDigit : Prop :=
  ∀ (s : State) (x : Reg), decode (wordXB 0xF x 0x29) = .ok (.ldFVx x) ∧
    ((s.reg x).toNat ≤ 15 → ∃ t, exec (.ldFVx x) s = .next t ∧ t.i.toNat = (s.reg x).toNat * 5 ∧ s.movedOn t ∧
      t = { s with i := t.i, pc := t.pc } ∧ s.sameBytes t) ∧
    ((s.reg x).toNat > 15 → ∃ t, exec (.ldFVx x) s = .next t ∧ s.fatalFrom t .invalidFontDigit)

/-- R174 and R177's second law: the three decimal digits at I, I + 1, I + 2, each at most 9, every other byte kept; I + 2 above
4095 is fatal and writes nothing. I stays (the spec's D18). -/
def Obligations.StoreBcdWritesThreeDigits : Prop :=
  ∀ (s : State) (x : Reg),
    (s.i.toNat + 2 ≤ 4095 → ∃ t, exec (.ldBVx x) s = .next t ∧
      (t.readByte s.i.toNat).toNat = (s.reg x).toNat / 100 ∧
      (t.readByte (s.i.toNat + 1)).toNat = (s.reg x).toNat / 10 % 10 ∧
      (t.readByte (s.i.toNat + 2)).toNat = (s.reg x).toNat % 10 ∧
      (t.readByte s.i.toNat).toNat * 100 + (t.readByte (s.i.toNat + 1)).toNat * 10 +
        (t.readByte (s.i.toNat + 2)).toNat = (s.reg x).toNat ∧
      s.sameBytesOutside t s.i.toNat 3 ∧ s.movedOn t ∧ t = { s with mem := t.mem, pc := t.pc }) ∧
    (s.i.toNat + 2 > 4095 → ∃ t, exec (.ldBVx x) s = .next t ∧ s.fatalFrom t .memoryOutOfBounds)

/-- R175: V0..Vx at I..I + x, every other byte kept; I + x above 4095 is fatal and writes nothing. I stays (the spec's D18). -/
def Obligations.RegisterDumpStoresV0ToVx : Prop :=
  ∀ (s : State) (x : Reg),
    (s.i.toNat + x.val ≤ 4095 → ∃ t, exec (.ldMemVx x) s = .next t ∧
      (∀ r : Reg, r ≤ x → t.readByte (s.i.toNat + r.val) = s.reg r) ∧
      s.sameBytesOutside t s.i.toNat (x.val + 1) ∧ s.movedOn t ∧ t = { s with mem := t.mem, pc := t.pc }) ∧
    (s.i.toNat + x.val > 4095 → ∃ t, exec (.ldMemVx x) s = .next t ∧ s.fatalFrom t .memoryOutOfBounds)

/-- R176: V0..Vx from I..I + x, the registers above x kept; I + x above 4095 is fatal and writes nothing. I stays (the spec's
D18). -/
def Obligations.RegisterLoadFillsV0ToVx : Prop :=
  ∀ (s : State) (x : Reg),
    (s.i.toNat + x.val ≤ 4095 → ∃ t, exec (.ldVxMem x) s = .next t ∧
      (∀ r : Reg, r ≤ x → t.reg r = s.readByte (s.i.toNat + r.val)) ∧ (∀ r : Reg, x < r → t.reg r = s.reg r) ∧
      s.sameBytes t ∧ s.movedOn t ∧ t = { s with v := t.v, pc := t.pc }) ∧
    (s.i.toNat + x.val > 4095 → ∃ t, exec (.ldVxMem x) s = .next t ∧ s.fatalFrom t .memoryOutOfBounds)

/-- R177, first law: a dump, then a load with the same x and I and no write in between, leaves V0..Vx as they were, and only
mem[I..I+x] has changed. -/
def Obligations.LoadAfterDumpRestoresTheRegisters : Prop :=
  ∀ (s : State) (x : Reg), s.i.toNat + x.val ≤ 4095 →
    ∃ t, exec (.ldMemVx x) s = .next t ∧ s.sameBytesOutside t s.i.toNat (x.val + 1) ∧
      ∀ u : State, u.i = t.i → t.sameBytes u →
        ∃ w, exec (.ldVxMem x) u = .next w ∧ (∀ r : Reg, r ≤ x → w.reg r = s.reg r) ∧ u.sameBytes w

/-! Display -/

/-- R190: drawPixel XORs the value into the one cell and reports whether both bits were 1; and R197, the source's Scenario C. -/
def Obligations.DrawPixelXorsOneCell : Prop :=
  (∀ (s : State) (x px : Fin 64) (y py : Fin 32) (value : Bool),
    ((s.xorCell x y value).fb.cell px py =
      if px = x ∧ py = y then (s.fb.cell px py ^^ value) else s.fb.cell px py) ∧
    (s.fb.collides x y value = true ↔ s.fb.cell x y = true ∧ value = true) ∧
    s.xorCell x y value = { s with fb := (s.xorCell x y value).fb }) ∧
  (∀ s : State,
    s.clearScreen.fb.collides 0 0 true = false ∧ (s.clearScreen.xorCell 0 0 true).fb.cell 0 0 = true ∧
    (s.clearScreen.xorCell 0 0 true).fb.collides 0 0 true = true ∧
    ((s.clearScreen.xorCell 0 0 true).xorCell 0 0 true).fb.cell 0 0 = false)

/-- R193: CLS clears every cell and changes nothing else but pc. -/
def Obligations.ClearScreenZeroesEveryCell : Prop :=
  decode 0x00E0 = .ok .cls ∧ ∀ s : State, ∃ t, exec .cls s = .next t ∧ (∀ x y, t.fb.cell x y = false) ∧ s.movedOn t ∧
    t = { s with fb := t.fb, pc := t.pc } ∧ s.sameBytes t

/-- R192's exceptions and frame, every form (n = 0 never faults and clears VF: the spec's D19): inside its range DRW completes
and changes VF, the framebuffer and pc alone; outside it is fatal and draws nothing. -/
def Obligations.DrawCompletesInRangeOrIsFatal : Prop :=
  ∀ (s : State) (x y : Reg) (n : Fin 16),
    (n.val = 0 ∨ s.i.toNat + n.val - 1 ≤ 4095 → ∃ t, exec (.drw x y n) s = .next t ∧ s.movedOn t ∧
      s.sameRegsBut t [VF] ∧ (n.val = 0 → t.fb = s.fb ∧ t.reg VF = 0) ∧ s.sameBytes t ∧
      t = { s with v := t.v, fb := t.fb, pc := t.pc }) ∧
    (0 < n.val ∧ s.i.toNat + n.val - 1 > 4095 → ∃ t, exec (.drw x y n) s = .next t ∧ s.fatalFrom t .memoryOutOfBounds)

/-- R192 and R194 for an origin that VF's writes do not reach (x and y not F, or DRAW_REG_READ = snapshot): each cell is XORed
with the sprite's bit on it, wrapping on both axes, and VF says whether a 1 met a 1. Bit 7 leftmost is the spec's D19. -/
def Obligations.DrawXorsTheSpriteAndFlagsCollision : Prop :=
  ∀ (s : State) (x y : Reg) (n : Fin 16), n.val = 0 ∨ s.i.toNat + n.val - 1 ≤ 4095 →
    (x ≠ VF ∧ y ≠ VF) ∨ s.config.drawRegRead = .snapshot →
      ∃ t, exec (.drw x y n) s = .next t ∧
        (∀ px py, t.fb.cell px py = true ↔
          Xor (s.fb.cell px py = true) (spriteOn s s.i.toNat (s.reg x).toNat (s.reg y).toNat n.val px py)) ∧
        (t.reg VF = 0 ∨ t.reg VF = 1) ∧
        (t.reg VF = 1 ↔ ∃ px py, s.fb.cell px py = true ∧
          spriteOn s s.i.toNat (s.reg x).toNat (s.reg y).toNat n.val px py)

/-- R192's pseudocode, every form and both settings of DRAW_REG_READ (the spec's D20): the model's drawing is the flat loop over
(row, col) with Vx and Vy read at each turn, or once. -/
def Obligations.DrawIsTheRulesLoop : Prop :=
  ∀ (s : State) (x y : Reg) (n : Fin 16), n.val = 0 ∨ s.i.toNat + n.val - 1 ≤ 4095 →
    ∃ t, exec (.drw x y n) s = .next t ∧ t.fb = (drawLoop s x y n.val).1 ∧ t.v = (drawLoop s x y n.val).2 ∧ s.movedOn t

/-- R39's line for DRW, every form, x = F and y = F with live reads among them: VF is 1 if any pixel was erased, else 0. -/
def Obligations.DrawFlagSaysAPixelWasErased : Prop :=
  ∀ (s : State) (x y : Reg) (n : Fin 16), n.val = 0 ∨ s.i.toNat + n.val - 1 ≤ 4095 →
    ∃ t, exec (.drw x y n) s = .next t ∧ (t.reg VF = 0 ∨ t.reg VF = 1) ∧
      (t.reg VF = 1 ↔ ∃ px py, s.fb.cell px py = true ∧ t.fb.cell px py = false)

/-- R196, first half: the same DRW twice, with Vx, Vy, I, the sprite's bytes and the framebuffer unchanged in between and x, y not
F, restores every cell. The second draw's flag is what R192 makes it: 1 exactly when a sprite bit fell on a cell that was 0
before the first draw. So R196's second half holds wherever R190 and R192 allow it: where the cells under the sprite's 1 bits
were 0, the second draw's VF is 1 exactly when the sprite has a 1 bit (notes/assumptions/18.md; R196's own sentence, without
that premise, is the next statement). Which cell a sprite bit falls on rests on the bit order of the spec's D19
(notes/assumptions/15.md). -/
def Obligations.DrawingTwiceRestoresTheFramebuffer : Prop :=
  ∀ (s : State) (x y : Reg) (n : Fin 16), x ≠ VF → y ≠ VF → n.val = 0 ∨ s.i.toNat + n.val - 1 ≤ 4095 →
    ∃ t, exec (.drw x y n) s = .next t ∧
      ∀ u : State, u.fb = t.fb → u.reg x = t.reg x → u.reg y = t.reg y → u.i = t.i →
        (∀ row, row < n.val → u.readByte (u.i.toNat + row) = t.readByte (t.i.toNat + row)) →
          ∃ w, exec (.drw x y n) u = .next w ∧ w.fb = s.fb ∧ (w.reg VF = 0 ∨ w.reg VF = 1) ∧
            (w.reg VF = 1 ↔ ∃ px py, s.fb.cell px py = false ∧
              spriteOn s s.i.toNat (s.reg x).toNat (s.reg y).toNat n.val px py) ∧
            ((∀ px py, spriteOn s s.i.toNat (s.reg x).toNat (s.reg y).toNat n.val px py → s.fb.cell px py = false) →
              (w.reg VF = 1 ↔ ∃ row, row < n.val ∧ s.readByte (s.i.toNat + row) ≠ 0))

/-- R196's second half as its sentence has it: the second of two equal draws sets VF to 1 exactly when the sprite has a 1 bit.
EXPECTED TO FAIL: where every cell under the sprite's 1 bits was 1 before the first draw, the first draw clears them and the
second erases nothing, so R190 and R192 give VF = 0 (notes/assumptions/18.md). -/
def Obligations.SecondDrawFlagsEverySpriteWithAOneBit : Prop :=
  ∀ (s t w : State) (x y : Reg) (n : Fin 16), x ≠ VF → y ≠ VF → n.val = 0 ∨ s.i.toNat + n.val - 1 ≤ 4095 →
    exec (.drw x y n) s = .next t → exec (.drw x y n) t = .next w →
      (w.reg VF = 1 ↔ ∃ row, row < n.val ∧ s.readByte (s.i.toNat + row) ≠ 0)

/-! Keys and timers -/

/-- R212: Fx0A takes the pending press, which is consumed; with none it stalls, pc and Vx kept. Key 0 under KEY0_IS_NONE is
consumed and stalls (the spec's D22). -/
def Obligations.WaitForKeyTakesThePressOrStalls : Prop :=
  ∀ (s : State) (x : Reg),
    (∀ k : Key, s.pending = some k → ¬(s.config.key0IsNone = true ∧ k = 0) →
      ∃ t, exec (.ldVxK x) s = .next t ∧ (t.reg x).toNat = k.val ∧ t.pending = none ∧ s.movedOn t ∧ s.sameRegsBut t [x] ∧
        s.sameBytes t ∧ t = { s with v := t.v, pc := t.pc, pending := none }) ∧
    (s.pending = none ∨ (s.config.key0IsNone = true ∧ s.pending = some 0) →
      ∃ t, exec (.ldVxK x) s = .next t ∧ t = { s with pending := none } ∧ s.sameBytes t)

/-- R213, R214, R215: Vx from DT, DT from Vx, ST from Vx, the sound output being ST ≠ 0 at once. -/
def Obligations.TimerInstructionsMoveOneByte : Prop :=
  ∀ (s : State) (x : Reg),
    (∃ t, exec (.ldVxDt x) s = .next t ∧ t.reg x = s.dt ∧ s.movedOn t ∧ s.keepsAllBut t [x]) ∧
    (∃ t, exec (.ldDtVx x) s = .next t ∧ t.dt = s.reg x ∧ s.movedOn t ∧ t = { s with dt := t.dt, pc := t.pc } ∧
      s.sameBytes t) ∧
    (∃ t, exec (.ldStVx x) s = .next t ∧ t.st = s.reg x ∧ (t.hasSound = true ↔ s.reg x ≠ 0) ∧ s.movedOn t ∧
      t = { s with st := t.st, pc := t.pc } ∧ s.sameBytes t)

/-! The host's operations -/

/-- R217: pressKey marks the key and records it as pending, in place of an earlier press (the spec's D31); indices of 16 and
more are ignored. -/
def Obligations.PressKeyMarksAndRecordsTheKey : Prop :=
  ∀ (s : State) (k : Nat),
    (k < 16 → (∀ j, keyDown (s.pressKey k) j = (decide (j = k) || keyDown s j)) ∧
      (s.pressKey k).pending.map Fin.val = some k ∧
      s.pressKey k = { s with keys := (s.pressKey k).keys, pending := (s.pressKey k).pending }) ∧
    (16 ≤ k → s.pressKey k = s)

/-- R218 (the spec's D23): releaseKey clears the one key and leaves pending, or under RELEASE_CLEARS_ALL empties the keypad. -/
def Obligations.ReleaseKeyClearsOneKeyOrAll : Prop :=
  ∀ (s : State) (k : Nat),
    (k < 16 → s.config.releaseClearsAll = false →
      (∀ j, keyDown (s.releaseKey k) j = (decide (j ≠ k) && keyDown s j)) ∧
      s.releaseKey k = { s with keys := (s.releaseKey k).keys }) ∧
    (k < 16 → s.config.releaseClearsAll = true → s.releaseKey k = { s with keys := 0, pending := none }) ∧
    (16 ≤ k → s.releaseKey k = s)

/-- R249 (one step a call, saturating: the spec's D9): Speed moves by one inside 1..5, and nothing else changes. -/
def Obligations.SpeedOperationsSaturateInOneToFive : Prop :=
  ∀ s : State, 1 ≤ s.speed → s.speed ≤ 5 →
    (s.speedUp.speed = if s.speed = 1 then 1 else s.speed - 1) ∧
    (s.speedDown.speed = if s.speed = 5 then 5 else s.speed + 1) ∧
    s.speedUp = { s with speed := s.speedUp.speed } ∧ s.speedDown = { s with speed := s.speedDown.speed }

/-- R195, R242, R250, R251, R252: the three queries change no state; getFramebuffer answers 2048 cells, cell y*64 + x being
fb[y][x], and hasSound whether ST is above 0. -/
def Obligations.QueriesAnswerAndChangeNothing : Prop :=
  ∀ s : State,
    s.after .getFramebuffer = s ∧ s.after .hasSound = s ∧ s.after .debugState = s ∧
    (∃ cells, s.reply .getFramebuffer = .cells cells ∧ cells.length = 2048 ∧
      ∀ (x : Fin 64) (y : Fin 32), cells[y.val * 64 + x.val]? = some (s.fb.cell x y)) ∧
    s.reply .hasSound = .sound (decide (0 < s.st.toNat)) ∧
    s.reply .debugState = .dump ⟨s.v, s.pc, s.sp, s.i, s.st⟩

/-- R272 and R274: the source's reset invariant after every loadROM of at most 3584 bytes, for every FONT, and Speed as it
was. -/
def Obligations.LoadRomLeavesTheResetInvariant : Prop :=
  ∀ (s : State) (bytes : List Byte), bytes.length ≤ 3584 →
    (∀ r, (s.loadROM bytes).reg r = 0) ∧ (s.loadROM bytes).pc = 0x200 ∧ (s.loadROM bytes).sp = -1 ∧
    (s.loadROM bytes).i = 0 ∧ (s.loadROM bytes).dt = 0 ∧ (s.loadROM bytes).st = 0 ∧
    (s.loadROM bytes).paused = false ∧ (∀ x y, (s.loadROM bytes).fb.cell x y = false) ∧
    (s.loadROM bytes).keys = 0 ∧ (s.loadROM bytes).pending = none ∧
    (∀ a : Fin 80, (s.loadROM bytes).readByte a.val = s.config.font[a]) ∧ (s.loadROM bytes).speed = s.speed

/-- The rest of R270 (FaultReason and FC: the spec's D25 and D6; settings and random source: the model's, notes/assumptions/2.md
and 5.md): the program bytes from 0x200, zero in every other byte above the font, an empty stack of zeros; and R271 (the
state it leaves: the spec's D24): more than 3584 bytes are fatal, the reset is done, no program byte is copied, and every later
cycle is Idle. -/
def Obligations.LoadRomPlacesTheImageOrIsFatal : Prop :=
  ∀ (s : State) (bytes : List Byte),
    (bytes.length ≤ 3584 →
      (∀ k (h : k < bytes.length), (s.loadROM bytes).readByte (0x200 + k) = bytes[k]) ∧
      (∀ a, 80 ≤ a → (a < 0x200 ∨ 0x200 + bytes.length ≤ a) → (s.loadROM bytes).readByte a = 0) ∧
      (∀ k : Fin 16, (s.loadROM bytes).stack[k] = 0) ∧ (s.loadROM bytes).faultReason = none ∧
      (s.loadROM bytes).fc = 0 ∧ (s.loadROM bytes).config = s.config ∧ (s.loadROM bytes).rngDraws = s.rngDraws ∧
      s.reply (.loadROM bytes) = .nothing) ∧
    (3584 < bytes.length →
      s.reply (.loadROM bytes) = .fatalError .memoryOutOfBounds ∧
      (s.loadROM []).fatalFrom (s.loadROM bytes) .memoryOutOfBounds ∧
      ∀ n, ((s.loadROM bytes).afterCycles n).cycleResult = .idle)
end

