-- ==== Sys2Proof/Laws/Decode.lean ====
section
/-!
SUPPORT. The fields of an encoded word, and what the three masks of spec/30_encoding.md R85 leave of it.
-/

namespace Sys2Proof

section Bits
variable (op : BitVec 4) (nnn : Addr) (x y : Reg) (nn : Byte) (last : BitVec 4) (k : Nat)

theorem getLsbD_formatA :
    (formatA op nnn).getLsbD k = if k < 12 then nnn.getLsbD k else op.getLsbD (k - 12) :=
  BitVec.getLsbD_append

theorem getLsbD_formatXB : (formatXB op x nn).getLsbD k = if k < 8 then nn.getLsbD k
    else if k - 8 < 4 then x.val.testBit (k - 8) else op.getLsbD (k - 8 - 4) := by
  refine BitVec.getLsbD_append.trans ?_
  rw [BitVec.getLsbD_append]; rfl

theorem getLsbD_formatXY : (formatXY op x y last).getLsbD k = if k < 4 then last.getLsbD k
    else if k - 4 < 4 then y.val.testBit (k - 4)
    else if k - 4 - 4 < 4 then x.val.testBit (k - 4 - 4) else op.getLsbD (k - 4 - 4 - 4) := by
  refine BitVec.getLsbD_append.trans ?_
  rw [BitVec.getLsbD_append, BitVec.getLsbD_append]; rfl

end Bits

section Fields
variable (op : BitVec 4) (nnn : Addr) (x y : Reg) (nn : Byte) (last : BitVec 4)

@[simp] theorem fieldA_formatA : fieldA (formatA op nnn) = nnn := by
  apply BitVec.eq_of_getLsbD_eq; intro k hk
  simp only [fieldA, getLsbD_formatA, BitVec.getLsbD_extractLsb']
  interval_cases k <;> simp

@[simp] theorem fieldB_formatXB : fieldB (formatXB op x nn) = nn := by
  apply BitVec.eq_of_getLsbD_eq; intro k hk
  simp only [fieldB, getLsbD_formatXB, BitVec.getLsbD_extractLsb']
  interval_cases k <;> simp

@[simp] theorem fieldX_formatXB : fieldX (formatXB op x nn) = x := by
  have : (formatXB op x nn).extractLsb' 8 4 = BitVec.ofFin x := by
    apply BitVec.eq_of_getLsbD_eq; intro k hk
    simp only [getLsbD_formatXB, BitVec.getLsbD_extractLsb', BitVec.getLsbD_ofFin]
    interval_cases k <;> simp
  rw [fieldX, this]

@[simp] theorem fieldX_formatXY : fieldX (formatXY op x y last) = x := by
  have : (formatXY op x y last).extractLsb' 8 4 = BitVec.ofFin x := by
    apply BitVec.eq_of_getLsbD_eq; intro k hk
    simp only [getLsbD_formatXY, BitVec.getLsbD_extractLsb', BitVec.getLsbD_ofFin]
    interval_cases k <;> simp
  rw [fieldX, this]

@[simp] theorem fieldY_formatXY : fieldY (formatXY op x y last) = y := by
  have : (formatXY op x y last).extractLsb' 4 4 = BitVec.ofFin y := by
    apply BitVec.eq_of_getLsbD_eq; intro k hk
    simp only [getLsbD_formatXY, BitVec.getLsbD_extractLsb', BitVec.getLsbD_ofFin]
    interval_cases k <;> simp
  rw [fieldY, this]

@[simp] theorem fieldN_formatXY (n : Fin 16) : fieldN (formatXY op x y (BitVec.ofFin n)) = n := by
  have : (formatXY op x y (BitVec.ofFin n)).extractLsb' 0 4 = BitVec.ofFin n := by
    apply BitVec.eq_of_getLsbD_eq; intro k hk
    simp only [getLsbD_formatXY, BitVec.getLsbD_extractLsb', BitVec.getLsbD_ofFin]
    interval_cases k <;> simp
  rw [fieldN, this]

end Fields

section Masks
variable (op : BitVec 4) (nnn : Addr) (x y : Reg) (nn : Byte) (last : BitVec 4)

/-- Mask F000 keeps the leading digit. -/
theorem formatA_and_F000 : formatA op nnn &&& 0xF000 = formatA op 0 := by
  apply BitVec.eq_of_getLsbD_eq; intro k hk
  simp only [getLsbD_formatA, BitVec.getLsbD_and]
  interval_cases k <;> simp

theorem formatXB_and_F000 : formatXB op x nn &&& 0xF000 = formatA op 0 := by
  apply BitVec.eq_of_getLsbD_eq; intro k hk
  simp only [getLsbD_formatA, getLsbD_formatXB, BitVec.getLsbD_and]
  interval_cases k <;> simp

theorem formatXY_and_F000 : formatXY op x y last &&& 0xF000 = formatA op 0 := by
  apply BitVec.eq_of_getLsbD_eq; intro k hk
  simp only [getLsbD_formatA, getLsbD_formatXY, BitVec.getLsbD_and]
  interval_cases k <;> simp

/-- Mask F00F keeps the leading and the last digit. -/
theorem formatXY_and_F00F : formatXY op x y last &&& 0xF00F = formatXY op 0 0 last := by
  apply BitVec.eq_of_getLsbD_eq; intro k hk
  simp only [getLsbD_formatXY, BitVec.getLsbD_and]
  interval_cases k <;> simp

/-- Mask F0FF keeps the leading digit and the low byte. -/
theorem formatXB_and_F0FF : formatXB op x nn &&& 0xF0FF = formatXB op 0 nn := by
  apply BitVec.eq_of_getLsbD_eq; intro k hk
  simp only [getLsbD_formatXB, BitVec.getLsbD_and]
  interval_cases k <;> simp

end Masks

end Sys2Proof
end

