-- ==== Sys2Proof/Laws/Memory.lean ====
section
/-!
SUPPORT. Laws of memory: what a read gives after a write, and that every operation keeps the canonical form. They need no
premise on the memory they start from, but for the form itself.
-/

namespace Sys2Proof.Machine

theorem Memory.read_filter_other (font : Font) (m : Memory) {a b : Nat} (h : b ≠ a) :
    Memory.read font (m.filter (fun c => c.1 != a)) b = Memory.read font m b := by
  induction m with
  | nil => rfl
  | cons c m ih =>
    by_cases hc : c.1 = a
    · have hb : c.1 ≠ b := by omega
      simp [hc, Memory.read, ih, Ne.symm h]
    · simp [hc, Memory.read, ih]

theorem Memory.read_filter_same (font : Font) (m : Memory) (a : Nat) :
    Memory.read font (m.filter (fun c => c.1 != a)) a = Memory.unlisted font a := by
  induction m with
  | nil => rfl
  | cons c m ih =>
    by_cases hc : c.1 = a
    · simpa [hc] using ih
    · simpa [hc, Memory.read] using ih

theorem Memory.read_insert (font : Font) (c : Host.Cell) (m : Memory) (b : Nat)
    (fresh : ∀ d ∈ m, d.1 ≠ c.1) :
    Memory.read font (Memory.insert c m) b = if c.1 = b then c.2 else Memory.read font m b := by
  induction m with
  | nil => rfl
  | cons d m ih =>
    have hd : d.1 ≠ c.1 := fresh d (by simp)
    have ih := ih (fun e he => fresh e (by simp [he]))
    unfold Memory.insert
    split
    · rfl
    · simp only [Memory.read, ih]
      by_cases h1 : d.1 = b
      · have : c.1 ≠ b := by omega
        simp [h1, this]
      · simp [h1]

theorem Memory.fresh_filter (m : Memory) (a : Nat) : ∀ d ∈ m.filter (fun c => c.1 != a), d.1 ≠ a := by
  intro d hd
  simpa using (List.mem_filter.mp hd).2

/-- The byte written is the byte read. -/
theorem Memory.read_write_same (font : Font) (m : Memory) {a : Nat} (b : Byte) (h : a < memorySize) :
    Memory.read font (Memory.write font m a b) a = b := by
  simp only [Memory.write, if_pos h]
  split
  · next hb => rw [Memory.read_filter_same, hb]
  · rw [Memory.read_insert font (a, b) _ a (Memory.fresh_filter m a)]; simp

/-- Every other address reads as before. -/
theorem Memory.read_write_other (font : Font) (m : Memory) {a c : Nat} (b : Byte) (h : c ≠ a) :
    Memory.read font (Memory.write font m a b) c = Memory.read font m c := by
  unfold Memory.write
  split
  · dsimp only
    split
    · exact Memory.read_filter_other font m h
    · rw [Memory.read_insert font (a, b) _ c (Memory.fresh_filter m a), if_neg (by simpa using h.symm),
        Memory.read_filter_other font m h]
  · rfl

/-- Outside the bytes a run of writes covers, every address reads as before. -/
theorem Memory.read_writeAll_outside (font : Font) (bs : List Byte) :
    ∀ (m : Memory) (a c : Nat), (c < a ∨ a + bs.length ≤ c) →
      Memory.read font (Memory.writeAll font m a bs) c = Memory.read font m c := by
  induction bs with
  | nil => intros; rfl
  | cons b bs ih =>
    intro m a c h
    simp only [List.length_cons] at h
    rw [Memory.writeAll, ih _ _ _ (by omega), Memory.read_write_other font m b (by omega)]

/-- Inside them, each address reads as the byte written there. -/
theorem Memory.read_writeAll_inside (font : Font) (bs : List Byte) :
    ∀ (m : Memory) (a k : Nat) (hk : k < bs.length), a + bs.length ≤ memorySize →
      Memory.read font (Memory.writeAll font m a bs) (a + k) = bs[k] := by
  induction bs with
  | nil => intro m a k hk; exact absurd hk (by simp)
  | cons b bs ih =>
    intro m a k hk hr
    simp only [List.length_cons] at hk hr
    cases k with
    | zero =>
      rw [Memory.writeAll, Memory.read_writeAll_outside font bs _ _ _ (by omega)]
      exact Memory.read_write_same font m b (by omega)
    | succ k =>
      have := ih (Memory.write font m a b) (a + 1) k (by omega) (by omega)
      rw [Memory.writeAll, show a + (k + 1) = a + 1 + k by omega, this]
      rfl

theorem Memory.mem_insert {c d : Host.Cell} {m : Memory} (h : d ∈ Memory.insert c m) : d = c ∨ d ∈ m := by
  induction m with
  | nil => simpa [Memory.insert] using h
  | cons e m ih =>
    unfold Memory.insert at h
    split at h
    · simpa using h
    · rcases List.mem_cons.mp h with h | h
      · simp [h]
      · rcases ih h with h | h <;> simp [h]

theorem Memory.pairwise_insert {c : Host.Cell} {m : Memory} (hm : m.Pairwise (fun c d => c.1 < d.1))
    (fresh : ∀ d ∈ m, d.1 ≠ c.1) : (Memory.insert c m).Pairwise (fun c d => c.1 < d.1) := by
  induction m with
  | nil => simp [Memory.insert]
  | cons d m ih =>
    have hd : d.1 ≠ c.1 := fresh d (by simp)
    obtain ⟨h1, h2⟩ := List.pairwise_cons.mp hm
    unfold Memory.insert
    split
    · next hlt =>
      refine List.pairwise_cons.mpr ⟨fun e he => ?_, hm⟩
      rcases List.mem_cons.mp he with rfl | he
      · exact hlt
      · exact hlt.trans (h1 e he)
    · refine List.pairwise_cons.mpr ⟨fun e he => ?_, ih h2 (fun e he => fresh e (by simp [he]))⟩
      rcases Memory.mem_insert he with rfl | he
      · omega
      · exact h1 e he

/-- A write keeps the canonical form. -/
theorem Memory.write_wf {font : Font} {m : Memory} (h : Memory.wf font m) (a : Nat) (b : Byte) :
    Memory.wf font (Memory.write font m a b) := by
  have kept : Memory.wf font (m.filter (fun c => c.1 != a)) :=
    ⟨h.1.filter _, fun c hc => h.2 c (List.mem_filter.mp hc).1⟩
  unfold Memory.write
  split
  · next ha =>
    dsimp only
    split
    · exact kept
    · next hb =>
      refine ⟨Memory.pairwise_insert kept.1 (Memory.fresh_filter m a), fun c hc => ?_⟩
      rcases Memory.mem_insert hc with rfl | hc
      · exact ⟨ha, hb⟩
      · exact kept.2 c hc
  · exact h

/-- A run of writes keeps the canonical form. -/
theorem Memory.writeAll_wf {font : Font} (bs : List Byte) :
    ∀ {m : Memory}, Memory.wf font m → ∀ a, Memory.wf font (Memory.writeAll font m a bs) := by
  induction bs with
  | nil => intro m h _; exact h
  | cons b bs ih => intro m h a; exact ih (Memory.write_wf h a b) (a + 1)

/-- Memory as reset leaves it is canonical. -/
theorem Memory.nil_wf (font : Font) : Memory.wf font [] := by simp [Memory.wf]

end Sys2Proof.Machine
end

