-- ==== Sys2Proof/Laws/State.lean ====
section
/-!
SUPPORT. One lemma for each field of State under each update, so that no later proof unfolds a record update; and what
`reg` and `readByte` give under each.
-/

namespace Sys2Proof.Machine

section
variable (s : State) (r : Reg) (b : Byte)
@[simp] theorem setReg_v : (s.setReg r b).v = s.v.set r b := rfl
@[simp] theorem setReg_pc : (s.setReg r b).pc = s.pc := rfl
@[simp] theorem setReg_i : (s.setReg r b).i = s.i := rfl
@[simp] theorem setReg_stack : (s.setReg r b).stack = s.stack := rfl
@[simp] theorem setReg_sp : (s.setReg r b).sp = s.sp := rfl
@[simp] theorem setReg_dt : (s.setReg r b).dt = s.dt := rfl
@[simp] theorem setReg_st : (s.setReg r b).st = s.st := rfl
@[simp] theorem setReg_fc : (s.setReg r b).fc = s.fc := rfl
@[simp] theorem setReg_speed : (s.setReg r b).speed = s.speed := rfl
@[simp] theorem setReg_paused : (s.setReg r b).paused = s.paused := rfl
@[simp] theorem setReg_faultReason : (s.setReg r b).faultReason = s.faultReason := rfl
@[simp] theorem setReg_mem : (s.setReg r b).mem = s.mem := rfl
@[simp] theorem setReg_fb : (s.setReg r b).fb = s.fb := rfl
@[simp] theorem setReg_keys : (s.setReg r b).keys = s.keys := rfl
@[simp] theorem setReg_pending : (s.setReg r b).pending = s.pending := rfl
@[simp] theorem setReg_config : (s.setReg r b).config = s.config := rfl
@[simp] theorem setReg_rngDraws : (s.setReg r b).rngDraws = s.rngDraws := rfl
@[simp] theorem setReg_readByte (a' : Nat) : (s.setReg r b).readByte a' = s.readByte a' := rfl
end

section
variable (s : State) (h : Bool)
@[simp] theorem setFlag_v : (s.setFlag h).v = s.v.set VF (flagByte h) := rfl
@[simp] theorem setFlag_pc : (s.setFlag h).pc = s.pc := rfl
@[simp] theorem setFlag_i : (s.setFlag h).i = s.i := rfl
@[simp] theorem setFlag_stack : (s.setFlag h).stack = s.stack := rfl
@[simp] theorem setFlag_sp : (s.setFlag h).sp = s.sp := rfl
@[simp] theorem setFlag_dt : (s.setFlag h).dt = s.dt := rfl
@[simp] theorem setFlag_st : (s.setFlag h).st = s.st := rfl
@[simp] theorem setFlag_fc : (s.setFlag h).fc = s.fc := rfl
@[simp] theorem setFlag_speed : (s.setFlag h).speed = s.speed := rfl
@[simp] theorem setFlag_paused : (s.setFlag h).paused = s.paused := rfl
@[simp] theorem setFlag_faultReason : (s.setFlag h).faultReason = s.faultReason := rfl
@[simp] theorem setFlag_mem : (s.setFlag h).mem = s.mem := rfl
@[simp] theorem setFlag_fb : (s.setFlag h).fb = s.fb := rfl
@[simp] theorem setFlag_keys : (s.setFlag h).keys = s.keys := rfl
@[simp] theorem setFlag_pending : (s.setFlag h).pending = s.pending := rfl
@[simp] theorem setFlag_config : (s.setFlag h).config = s.config := rfl
@[simp] theorem setFlag_rngDraws : (s.setFlag h).rngDraws = s.rngDraws := rfl
@[simp] theorem setFlag_readByte (a' : Nat) : (s.setFlag h).readByte a' = s.readByte a' := rfl
end

section
variable (s : State) (x : Reg) (b : Byte) (h : Bool)
@[simp] theorem setResultAndFlag_v : (s.setResultAndFlag x b h).v = (s.v.set x b).set VF (flagByte h) := rfl
@[simp] theorem setResultAndFlag_pc : (s.setResultAndFlag x b h).pc = s.pc := rfl
@[simp] theorem setResultAndFlag_i : (s.setResultAndFlag x b h).i = s.i := rfl
@[simp] theorem setResultAndFlag_stack : (s.setResultAndFlag x b h).stack = s.stack := rfl
@[simp] theorem setResultAndFlag_sp : (s.setResultAndFlag x b h).sp = s.sp := rfl
@[simp] theorem setResultAndFlag_dt : (s.setResultAndFlag x b h).dt = s.dt := rfl
@[simp] theorem setResultAndFlag_st : (s.setResultAndFlag x b h).st = s.st := rfl
@[simp] theorem setResultAndFlag_fc : (s.setResultAndFlag x b h).fc = s.fc := rfl
@[simp] theorem setResultAndFlag_speed : (s.setResultAndFlag x b h).speed = s.speed := rfl
@[simp] theorem setResultAndFlag_paused : (s.setResultAndFlag x b h).paused = s.paused := rfl
@[simp] theorem setResultAndFlag_faultReason : (s.setResultAndFlag x b h).faultReason = s.faultReason := rfl
@[simp] theorem setResultAndFlag_mem : (s.setResultAndFlag x b h).mem = s.mem := rfl
@[simp] theorem setResultAndFlag_fb : (s.setResultAndFlag x b h).fb = s.fb := rfl
@[simp] theorem setResultAndFlag_keys : (s.setResultAndFlag x b h).keys = s.keys := rfl
@[simp] theorem setResultAndFlag_pending : (s.setResultAndFlag x b h).pending = s.pending := rfl
@[simp] theorem setResultAndFlag_config : (s.setResultAndFlag x b h).config = s.config := rfl
@[simp] theorem setResultAndFlag_rngDraws : (s.setResultAndFlag x b h).rngDraws = s.rngDraws := rfl
@[simp] theorem setResultAndFlag_readByte (a' : Nat) : (s.setResultAndFlag x b h).readByte a' = s.readByte a' := rfl
end

section
variable (s : State) (w : Word)
@[simp] theorem jumpTo_v : (s.jumpTo w).v = s.v := rfl
@[simp] theorem jumpTo_pc : (s.jumpTo w).pc = w := rfl
@[simp] theorem jumpTo_i : (s.jumpTo w).i = s.i := rfl
@[simp] theorem jumpTo_stack : (s.jumpTo w).stack = s.stack := rfl
@[simp] theorem jumpTo_sp : (s.jumpTo w).sp = s.sp := rfl
@[simp] theorem jumpTo_dt : (s.jumpTo w).dt = s.dt := rfl
@[simp] theorem jumpTo_st : (s.jumpTo w).st = s.st := rfl
@[simp] theorem jumpTo_fc : (s.jumpTo w).fc = s.fc := rfl
@[simp] theorem jumpTo_speed : (s.jumpTo w).speed = s.speed := rfl
@[simp] theorem jumpTo_paused : (s.jumpTo w).paused = s.paused := rfl
@[simp] theorem jumpTo_faultReason : (s.jumpTo w).faultReason = s.faultReason := rfl
@[simp] theorem jumpTo_mem : (s.jumpTo w).mem = s.mem := rfl
@[simp] theorem jumpTo_fb : (s.jumpTo w).fb = s.fb := rfl
@[simp] theorem jumpTo_keys : (s.jumpTo w).keys = s.keys := rfl
@[simp] theorem jumpTo_pending : (s.jumpTo w).pending = s.pending := rfl
@[simp] theorem jumpTo_config : (s.jumpTo w).config = s.config := rfl
@[simp] theorem jumpTo_rngDraws : (s.jumpTo w).rngDraws = s.rngDraws := rfl
@[simp] theorem jumpTo_reg (r' : Reg) : (s.jumpTo w).reg r' = s.reg r' := rfl
@[simp] theorem jumpTo_readByte (a' : Nat) : (s.jumpTo w).readByte a' = s.readByte a' := rfl
end

section
variable (s : State)
@[simp] theorem advance_v : (s.advance).v = s.v := rfl
@[simp] theorem advance_pc : (s.advance).pc = s.pc + 2 := rfl
@[simp] theorem advance_i : (s.advance).i = s.i := rfl
@[simp] theorem advance_stack : (s.advance).stack = s.stack := rfl
@[simp] theorem advance_sp : (s.advance).sp = s.sp := rfl
@[simp] theorem advance_dt : (s.advance).dt = s.dt := rfl
@[simp] theorem advance_st : (s.advance).st = s.st := rfl
@[simp] theorem advance_fc : (s.advance).fc = s.fc := rfl
@[simp] theorem advance_speed : (s.advance).speed = s.speed := rfl
@[simp] theorem advance_paused : (s.advance).paused = s.paused := rfl
@[simp] theorem advance_faultReason : (s.advance).faultReason = s.faultReason := rfl
@[simp] theorem advance_mem : (s.advance).mem = s.mem := rfl
@[simp] theorem advance_fb : (s.advance).fb = s.fb := rfl
@[simp] theorem advance_keys : (s.advance).keys = s.keys := rfl
@[simp] theorem advance_pending : (s.advance).pending = s.pending := rfl
@[simp] theorem advance_config : (s.advance).config = s.config := rfl
@[simp] theorem advance_rngDraws : (s.advance).rngDraws = s.rngDraws := rfl
@[simp] theorem advance_reg (r' : Reg) : (s.advance).reg r' = s.reg r' := rfl
@[simp] theorem advance_readByte (a' : Nat) : (s.advance).readByte a' = s.readByte a' := rfl
end

section
variable (s : State) (h : Bool)
@[simp] theorem skipIf_v : (s.skipIf h).v = s.v := rfl
@[simp] theorem skipIf_pc : (s.skipIf h).pc = s.pc + if h then 4 else 2 := rfl
@[simp] theorem skipIf_i : (s.skipIf h).i = s.i := rfl
@[simp] theorem skipIf_stack : (s.skipIf h).stack = s.stack := rfl
@[simp] theorem skipIf_sp : (s.skipIf h).sp = s.sp := rfl
@[simp] theorem skipIf_dt : (s.skipIf h).dt = s.dt := rfl
@[simp] theorem skipIf_st : (s.skipIf h).st = s.st := rfl
@[simp] theorem skipIf_fc : (s.skipIf h).fc = s.fc := rfl
@[simp] theorem skipIf_speed : (s.skipIf h).speed = s.speed := rfl
@[simp] theorem skipIf_paused : (s.skipIf h).paused = s.paused := rfl
@[simp] theorem skipIf_faultReason : (s.skipIf h).faultReason = s.faultReason := rfl
@[simp] theorem skipIf_mem : (s.skipIf h).mem = s.mem := rfl
@[simp] theorem skipIf_fb : (s.skipIf h).fb = s.fb := rfl
@[simp] theorem skipIf_keys : (s.skipIf h).keys = s.keys := rfl
@[simp] theorem skipIf_pending : (s.skipIf h).pending = s.pending := rfl
@[simp] theorem skipIf_config : (s.skipIf h).config = s.config := rfl
@[simp] theorem skipIf_rngDraws : (s.skipIf h).rngDraws = s.rngDraws := rfl
@[simp] theorem skipIf_reg (r' : Reg) : (s.skipIf h).reg r' = s.reg r' := rfl
@[simp] theorem skipIf_readByte (a' : Nat) : (s.skipIf h).readByte a' = s.readByte a' := rfl
end

section
variable (s : State) (w : Word)
@[simp] theorem setIndex_v : (s.setIndex w).v = s.v := rfl
@[simp] theorem setIndex_pc : (s.setIndex w).pc = s.pc := rfl
@[simp] theorem setIndex_i : (s.setIndex w).i = w := rfl
@[simp] theorem setIndex_stack : (s.setIndex w).stack = s.stack := rfl
@[simp] theorem setIndex_sp : (s.setIndex w).sp = s.sp := rfl
@[simp] theorem setIndex_dt : (s.setIndex w).dt = s.dt := rfl
@[simp] theorem setIndex_st : (s.setIndex w).st = s.st := rfl
@[simp] theorem setIndex_fc : (s.setIndex w).fc = s.fc := rfl
@[simp] theorem setIndex_speed : (s.setIndex w).speed = s.speed := rfl
@[simp] theorem setIndex_paused : (s.setIndex w).paused = s.paused := rfl
@[simp] theorem setIndex_faultReason : (s.setIndex w).faultReason = s.faultReason := rfl
@[simp] theorem setIndex_mem : (s.setIndex w).mem = s.mem := rfl
@[simp] theorem setIndex_fb : (s.setIndex w).fb = s.fb := rfl
@[simp] theorem setIndex_keys : (s.setIndex w).keys = s.keys := rfl
@[simp] theorem setIndex_pending : (s.setIndex w).pending = s.pending := rfl
@[simp] theorem setIndex_config : (s.setIndex w).config = s.config := rfl
@[simp] theorem setIndex_rngDraws : (s.setIndex w).rngDraws = s.rngDraws := rfl
@[simp] theorem setIndex_reg (r' : Reg) : (s.setIndex w).reg r' = s.reg r' := rfl
@[simp] theorem setIndex_readByte (a' : Nat) : (s.setIndex w).readByte a' = s.readByte a' := rfl
end

section
variable (s : State) (b : Byte)
@[simp] theorem setDelay_v : (s.setDelay b).v = s.v := rfl
@[simp] theorem setDelay_pc : (s.setDelay b).pc = s.pc := rfl
@[simp] theorem setDelay_i : (s.setDelay b).i = s.i := rfl
@[simp] theorem setDelay_stack : (s.setDelay b).stack = s.stack := rfl
@[simp] theorem setDelay_sp : (s.setDelay b).sp = s.sp := rfl
@[simp] theorem setDelay_dt : (s.setDelay b).dt = b := rfl
@[simp] theorem setDelay_st : (s.setDelay b).st = s.st := rfl
@[simp] theorem setDelay_fc : (s.setDelay b).fc = s.fc := rfl
@[simp] theorem setDelay_speed : (s.setDelay b).speed = s.speed := rfl
@[simp] theorem setDelay_paused : (s.setDelay b).paused = s.paused := rfl
@[simp] theorem setDelay_faultReason : (s.setDelay b).faultReason = s.faultReason := rfl
@[simp] theorem setDelay_mem : (s.setDelay b).mem = s.mem := rfl
@[simp] theorem setDelay_fb : (s.setDelay b).fb = s.fb := rfl
@[simp] theorem setDelay_keys : (s.setDelay b).keys = s.keys := rfl
@[simp] theorem setDelay_pending : (s.setDelay b).pending = s.pending := rfl
@[simp] theorem setDelay_config : (s.setDelay b).config = s.config := rfl
@[simp] theorem setDelay_rngDraws : (s.setDelay b).rngDraws = s.rngDraws := rfl
@[simp] theorem setDelay_reg (r' : Reg) : (s.setDelay b).reg r' = s.reg r' := rfl
@[simp] theorem setDelay_readByte (a' : Nat) : (s.setDelay b).readByte a' = s.readByte a' := rfl
end

section
variable (s : State) (b : Byte)
@[simp] theorem setSound_v : (s.setSound b).v = s.v := rfl
@[simp] theorem setSound_pc : (s.setSound b).pc = s.pc := rfl
@[simp] theorem setSound_i : (s.setSound b).i = s.i := rfl
@[simp] theorem setSound_stack : (s.setSound b).stack = s.stack := rfl
@[simp] theorem setSound_sp : (s.setSound b).sp = s.sp := rfl
@[simp] theorem setSound_dt : (s.setSound b).dt = s.dt := rfl
@[simp] theorem setSound_st : (s.setSound b).st = b := rfl
@[simp] theorem setSound_fc : (s.setSound b).fc = s.fc := rfl
@[simp] theorem setSound_speed : (s.setSound b).speed = s.speed := rfl
@[simp] theorem setSound_paused : (s.setSound b).paused = s.paused := rfl
@[simp] theorem setSound_faultReason : (s.setSound b).faultReason = s.faultReason := rfl
@[simp] theorem setSound_mem : (s.setSound b).mem = s.mem := rfl
@[simp] theorem setSound_fb : (s.setSound b).fb = s.fb := rfl
@[simp] theorem setSound_keys : (s.setSound b).keys = s.keys := rfl
@[simp] theorem setSound_pending : (s.setSound b).pending = s.pending := rfl
@[simp] theorem setSound_config : (s.setSound b).config = s.config := rfl
@[simp] theorem setSound_rngDraws : (s.setSound b).rngDraws = s.rngDraws := rfl
@[simp] theorem setSound_reg (r' : Reg) : (s.setSound b).reg r' = s.reg r' := rfl
@[simp] theorem setSound_readByte (a' : Nat) : (s.setSound b).readByte a' = s.readByte a' := rfl
end

section
variable (s : State) (a : Nat) (b : Byte)
@[simp] theorem writeByte_v : (s.writeByte a b).v = s.v := rfl
@[simp] theorem writeByte_pc : (s.writeByte a b).pc = s.pc := rfl
@[simp] theorem writeByte_i : (s.writeByte a b).i = s.i := rfl
@[simp] theorem writeByte_stack : (s.writeByte a b).stack = s.stack := rfl
@[simp] theorem writeByte_sp : (s.writeByte a b).sp = s.sp := rfl
@[simp] theorem writeByte_dt : (s.writeByte a b).dt = s.dt := rfl
@[simp] theorem writeByte_st : (s.writeByte a b).st = s.st := rfl
@[simp] theorem writeByte_fc : (s.writeByte a b).fc = s.fc := rfl
@[simp] theorem writeByte_speed : (s.writeByte a b).speed = s.speed := rfl
@[simp] theorem writeByte_paused : (s.writeByte a b).paused = s.paused := rfl
@[simp] theorem writeByte_faultReason : (s.writeByte a b).faultReason = s.faultReason := rfl
@[simp] theorem writeByte_mem : (s.writeByte a b).mem = s.mem.write s.config.font a b := rfl
@[simp] theorem writeByte_fb : (s.writeByte a b).fb = s.fb := rfl
@[simp] theorem writeByte_keys : (s.writeByte a b).keys = s.keys := rfl
@[simp] theorem writeByte_pending : (s.writeByte a b).pending = s.pending := rfl
@[simp] theorem writeByte_config : (s.writeByte a b).config = s.config := rfl
@[simp] theorem writeByte_rngDraws : (s.writeByte a b).rngDraws = s.rngDraws := rfl
@[simp] theorem writeByte_reg (r' : Reg) : (s.writeByte a b).reg r' = s.reg r' := rfl
end

section
variable (s : State) (a : Nat) (bs : List Byte)
@[simp] theorem writeBytes_v : (s.writeBytes a bs).v = s.v := rfl
@[simp] theorem writeBytes_pc : (s.writeBytes a bs).pc = s.pc := rfl
@[simp] theorem writeBytes_i : (s.writeBytes a bs).i = s.i := rfl
@[simp] theorem writeBytes_stack : (s.writeBytes a bs).stack = s.stack := rfl
@[simp] theorem writeBytes_sp : (s.writeBytes a bs).sp = s.sp := rfl
@[simp] theorem writeBytes_dt : (s.writeBytes a bs).dt = s.dt := rfl
@[simp] theorem writeBytes_st : (s.writeBytes a bs).st = s.st := rfl
@[simp] theorem writeBytes_fc : (s.writeBytes a bs).fc = s.fc := rfl
@[simp] theorem writeBytes_speed : (s.writeBytes a bs).speed = s.speed := rfl
@[simp] theorem writeBytes_paused : (s.writeBytes a bs).paused = s.paused := rfl
@[simp] theorem writeBytes_faultReason : (s.writeBytes a bs).faultReason = s.faultReason := rfl
@[simp] theorem writeBytes_mem : (s.writeBytes a bs).mem = s.mem.writeAll s.config.font a bs := rfl
@[simp] theorem writeBytes_fb : (s.writeBytes a bs).fb = s.fb := rfl
@[simp] theorem writeBytes_keys : (s.writeBytes a bs).keys = s.keys := rfl
@[simp] theorem writeBytes_pending : (s.writeBytes a bs).pending = s.pending := rfl
@[simp] theorem writeBytes_config : (s.writeBytes a bs).config = s.config := rfl
@[simp] theorem writeBytes_rngDraws : (s.writeBytes a bs).rngDraws = s.rngDraws := rfl
@[simp] theorem writeBytes_reg (r' : Reg) : (s.writeBytes a bs).reg r' = s.reg r' := rfl
end

section
variable (s : State) (w : Word)
@[simp] theorem push_v : (s.push w).v = s.v := rfl
@[simp] theorem push_pc : (s.push w).pc = s.pc := rfl
@[simp] theorem push_i : (s.push w).i = s.i := rfl
@[simp] theorem push_sp : (s.push w).sp = s.sp + 1 := rfl
@[simp] theorem push_dt : (s.push w).dt = s.dt := rfl
@[simp] theorem push_st : (s.push w).st = s.st := rfl
@[simp] theorem push_fc : (s.push w).fc = s.fc := rfl
@[simp] theorem push_speed : (s.push w).speed = s.speed := rfl
@[simp] theorem push_paused : (s.push w).paused = s.paused := rfl
@[simp] theorem push_faultReason : (s.push w).faultReason = s.faultReason := rfl
@[simp] theorem push_mem : (s.push w).mem = s.mem := rfl
@[simp] theorem push_fb : (s.push w).fb = s.fb := rfl
@[simp] theorem push_keys : (s.push w).keys = s.keys := rfl
@[simp] theorem push_pending : (s.push w).pending = s.pending := rfl
@[simp] theorem push_config : (s.push w).config = s.config := rfl
@[simp] theorem push_rngDraws : (s.push w).rngDraws = s.rngDraws := rfl
@[simp] theorem push_reg (r' : Reg) : (s.push w).reg r' = s.reg r' := rfl
@[simp] theorem push_readByte (a' : Nat) : (s.push w).readByte a' = s.readByte a' := rfl
end

section
variable (s : State)
@[simp] theorem pop_v : (s.pop).v = s.v := rfl
@[simp] theorem pop_pc : (s.pop).pc = s.pc := rfl
@[simp] theorem pop_i : (s.pop).i = s.i := rfl
@[simp] theorem pop_stack : (s.pop).stack = s.stack := rfl
@[simp] theorem pop_sp : (s.pop).sp = s.sp - 1 := rfl
@[simp] theorem pop_dt : (s.pop).dt = s.dt := rfl
@[simp] theorem pop_st : (s.pop).st = s.st := rfl
@[simp] theorem pop_fc : (s.pop).fc = s.fc := rfl
@[simp] theorem pop_speed : (s.pop).speed = s.speed := rfl
@[simp] theorem pop_paused : (s.pop).paused = s.paused := rfl
@[simp] theorem pop_faultReason : (s.pop).faultReason = s.faultReason := rfl
@[simp] theorem pop_mem : (s.pop).mem = s.mem := rfl
@[simp] theorem pop_fb : (s.pop).fb = s.fb := rfl
@[simp] theorem pop_keys : (s.pop).keys = s.keys := rfl
@[simp] theorem pop_pending : (s.pop).pending = s.pending := rfl
@[simp] theorem pop_config : (s.pop).config = s.config := rfl
@[simp] theorem pop_rngDraws : (s.pop).rngDraws = s.rngDraws := rfl
@[simp] theorem pop_reg (r' : Reg) : (s.pop).reg r' = s.reg r' := rfl
@[simp] theorem pop_readByte (a' : Nat) : (s.pop).readByte a' = s.readByte a' := rfl
end

section
variable (s : State) (r : FatalReason)
@[simp] theorem enterFatal_v : (s.enterFatal r).v = s.v := rfl
@[simp] theorem enterFatal_pc : (s.enterFatal r).pc = s.pc := rfl
@[simp] theorem enterFatal_i : (s.enterFatal r).i = s.i := rfl
@[simp] theorem enterFatal_stack : (s.enterFatal r).stack = s.stack := rfl
@[simp] theorem enterFatal_sp : (s.enterFatal r).sp = s.sp := rfl
@[simp] theorem enterFatal_dt : (s.enterFatal r).dt = s.dt := rfl
@[simp] theorem enterFatal_st : (s.enterFatal r).st = s.st := rfl
@[simp] theorem enterFatal_fc : (s.enterFatal r).fc = s.fc := rfl
@[simp] theorem enterFatal_speed : (s.enterFatal r).speed = s.speed := rfl
@[simp] theorem enterFatal_paused : (s.enterFatal r).paused = true := rfl
@[simp] theorem enterFatal_faultReason : (s.enterFatal r).faultReason = some r := rfl
@[simp] theorem enterFatal_mem : (s.enterFatal r).mem = s.mem := rfl
@[simp] theorem enterFatal_fb : (s.enterFatal r).fb = s.fb := rfl
@[simp] theorem enterFatal_keys : (s.enterFatal r).keys = s.keys := rfl
@[simp] theorem enterFatal_pending : (s.enterFatal r).pending = s.pending := rfl
@[simp] theorem enterFatal_config : (s.enterFatal r).config = s.config := rfl
@[simp] theorem enterFatal_rngDraws : (s.enterFatal r).rngDraws = s.rngDraws := rfl
@[simp] theorem enterFatal_reg (r' : Reg) : (s.enterFatal r).reg r' = s.reg r' := rfl
@[simp] theorem enterFatal_readByte (a' : Nat) : (s.enterFatal r).readByte a' = s.readByte a' := rfl
end

section
variable (s : State)
@[simp] theorem countDraw_v : (s.countDraw).v = s.v := rfl
@[simp] theorem countDraw_pc : (s.countDraw).pc = s.pc := rfl
@[simp] theorem countDraw_i : (s.countDraw).i = s.i := rfl
@[simp] theorem countDraw_stack : (s.countDraw).stack = s.stack := rfl
@[simp] theorem countDraw_sp : (s.countDraw).sp = s.sp := rfl
@[simp] theorem countDraw_dt : (s.countDraw).dt = s.dt := rfl
@[simp] theorem countDraw_st : (s.countDraw).st = s.st := rfl
@[simp] theorem countDraw_fc : (s.countDraw).fc = s.fc := rfl
@[simp] theorem countDraw_speed : (s.countDraw).speed = s.speed := rfl
@[simp] theorem countDraw_paused : (s.countDraw).paused = s.paused := rfl
@[simp] theorem countDraw_faultReason : (s.countDraw).faultReason = s.faultReason := rfl
@[simp] theorem countDraw_mem : (s.countDraw).mem = s.mem := rfl
@[simp] theorem countDraw_fb : (s.countDraw).fb = s.fb := rfl
@[simp] theorem countDraw_keys : (s.countDraw).keys = s.keys := rfl
@[simp] theorem countDraw_pending : (s.countDraw).pending = s.pending := rfl
@[simp] theorem countDraw_config : (s.countDraw).config = s.config := rfl
@[simp] theorem countDraw_rngDraws : (s.countDraw).rngDraws = s.rngDraws + 1 := rfl
@[simp] theorem countDraw_reg (r' : Reg) : (s.countDraw).reg r' = s.reg r' := rfl
@[simp] theorem countDraw_readByte (a' : Nat) : (s.countDraw).readByte a' = s.readByte a' := rfl
end

section
variable (s : State)
@[simp] theorem timerTick_v : (s.timerTick).v = s.v := rfl
@[simp] theorem timerTick_pc : (s.timerTick).pc = s.pc := rfl
@[simp] theorem timerTick_i : (s.timerTick).i = s.i := rfl
@[simp] theorem timerTick_stack : (s.timerTick).stack = s.stack := rfl
@[simp] theorem timerTick_sp : (s.timerTick).sp = s.sp := rfl
@[simp] theorem timerTick_dt : (s.timerTick).dt = tickDown s.dt := rfl
@[simp] theorem timerTick_st : (s.timerTick).st = tickDown s.st := rfl
@[simp] theorem timerTick_fc : (s.timerTick).fc = s.fc := rfl
@[simp] theorem timerTick_speed : (s.timerTick).speed = s.speed := rfl
@[simp] theorem timerTick_paused : (s.timerTick).paused = s.paused := rfl
@[simp] theorem timerTick_faultReason : (s.timerTick).faultReason = s.faultReason := rfl
@[simp] theorem timerTick_mem : (s.timerTick).mem = s.mem := rfl
@[simp] theorem timerTick_fb : (s.timerTick).fb = s.fb := rfl
@[simp] theorem timerTick_keys : (s.timerTick).keys = s.keys := rfl
@[simp] theorem timerTick_pending : (s.timerTick).pending = s.pending := rfl
@[simp] theorem timerTick_config : (s.timerTick).config = s.config := rfl
@[simp] theorem timerTick_rngDraws : (s.timerTick).rngDraws = s.rngDraws := rfl
@[simp] theorem timerTick_reg (r' : Reg) : (s.timerTick).reg r' = s.reg r' := rfl
@[simp] theorem timerTick_readByte (a' : Nat) : (s.timerTick).readByte a' = s.readByte a' := rfl
end

section
variable (s : State)
@[simp] theorem clearScreen_v : (s.clearScreen).v = s.v := rfl
@[simp] theorem clearScreen_pc : (s.clearScreen).pc = s.pc := rfl
@[simp] theorem clearScreen_i : (s.clearScreen).i = s.i := rfl
@[simp] theorem clearScreen_stack : (s.clearScreen).stack = s.stack := rfl
@[simp] theorem clearScreen_sp : (s.clearScreen).sp = s.sp := rfl
@[simp] theorem clearScreen_dt : (s.clearScreen).dt = s.dt := rfl
@[simp] theorem clearScreen_st : (s.clearScreen).st = s.st := rfl
@[simp] theorem clearScreen_fc : (s.clearScreen).fc = s.fc := rfl
@[simp] theorem clearScreen_speed : (s.clearScreen).speed = s.speed := rfl
@[simp] theorem clearScreen_paused : (s.clearScreen).paused = s.paused := rfl
@[simp] theorem clearScreen_faultReason : (s.clearScreen).faultReason = s.faultReason := rfl
@[simp] theorem clearScreen_mem : (s.clearScreen).mem = s.mem := rfl
@[simp] theorem clearScreen_fb : (s.clearScreen).fb = Framebuffer.blank := rfl
@[simp] theorem clearScreen_keys : (s.clearScreen).keys = s.keys := rfl
@[simp] theorem clearScreen_pending : (s.clearScreen).pending = s.pending := rfl
@[simp] theorem clearScreen_config : (s.clearScreen).config = s.config := rfl
@[simp] theorem clearScreen_rngDraws : (s.clearScreen).rngDraws = s.rngDraws := rfl
@[simp] theorem clearScreen_reg (r' : Reg) : (s.clearScreen).reg r' = s.reg r' := rfl
@[simp] theorem clearScreen_readByte (a' : Nat) : (s.clearScreen).readByte a' = s.readByte a' := rfl
end

section
variable (s : State) (x : Fin 64) (y : Fin 32) (b : Bool)
@[simp] theorem xorCell_v : (s.xorCell x y b).v = s.v := rfl
@[simp] theorem xorCell_pc : (s.xorCell x y b).pc = s.pc := rfl
@[simp] theorem xorCell_i : (s.xorCell x y b).i = s.i := rfl
@[simp] theorem xorCell_stack : (s.xorCell x y b).stack = s.stack := rfl
@[simp] theorem xorCell_sp : (s.xorCell x y b).sp = s.sp := rfl
@[simp] theorem xorCell_dt : (s.xorCell x y b).dt = s.dt := rfl
@[simp] theorem xorCell_st : (s.xorCell x y b).st = s.st := rfl
@[simp] theorem xorCell_fc : (s.xorCell x y b).fc = s.fc := rfl
@[simp] theorem xorCell_speed : (s.xorCell x y b).speed = s.speed := rfl
@[simp] theorem xorCell_paused : (s.xorCell x y b).paused = s.paused := rfl
@[simp] theorem xorCell_faultReason : (s.xorCell x y b).faultReason = s.faultReason := rfl
@[simp] theorem xorCell_mem : (s.xorCell x y b).mem = s.mem := rfl
@[simp] theorem xorCell_fb : (s.xorCell x y b).fb = s.fb.xorCell x y b := rfl
@[simp] theorem xorCell_keys : (s.xorCell x y b).keys = s.keys := rfl
@[simp] theorem xorCell_pending : (s.xorCell x y b).pending = s.pending := rfl
@[simp] theorem xorCell_config : (s.xorCell x y b).config = s.config := rfl
@[simp] theorem xorCell_rngDraws : (s.xorCell x y b).rngDraws = s.rngDraws := rfl
@[simp] theorem xorCell_reg (r' : Reg) : (s.xorCell x y b).reg r' = s.reg r' := rfl
@[simp] theorem xorCell_readByte (a' : Nat) : (s.xorCell x y b).readByte a' = s.readByte a' := rfl
end

section
variable (s : State)
@[simp] theorem consumePending_v : (s.consumePending).v = s.v := rfl
@[simp] theorem consumePending_pc : (s.consumePending).pc = s.pc := rfl
@[simp] theorem consumePending_i : (s.consumePending).i = s.i := rfl
@[simp] theorem consumePending_stack : (s.consumePending).stack = s.stack := rfl
@[simp] theorem consumePending_sp : (s.consumePending).sp = s.sp := rfl
@[simp] theorem consumePending_dt : (s.consumePending).dt = s.dt := rfl
@[simp] theorem consumePending_st : (s.consumePending).st = s.st := rfl
@[simp] theorem consumePending_fc : (s.consumePending).fc = s.fc := rfl
@[simp] theorem consumePending_speed : (s.consumePending).speed = s.speed := rfl
@[simp] theorem consumePending_paused : (s.consumePending).paused = s.paused := rfl
@[simp] theorem consumePending_faultReason : (s.consumePending).faultReason = s.faultReason := rfl
@[simp] theorem consumePending_mem : (s.consumePending).mem = s.mem := rfl
@[simp] theorem consumePending_fb : (s.consumePending).fb = s.fb := rfl
@[simp] theorem consumePending_keys : (s.consumePending).keys = s.keys := rfl
@[simp] theorem consumePending_pending : (s.consumePending).pending = none := rfl
@[simp] theorem consumePending_config : (s.consumePending).config = s.config := rfl
@[simp] theorem consumePending_rngDraws : (s.consumePending).rngDraws = s.rngDraws := rfl
@[simp] theorem consumePending_reg (r' : Reg) : (s.consumePending).reg r' = s.reg r' := rfl
@[simp] theorem consumePending_readByte (a' : Nat) : (s.consumePending).readByte a' = s.readByte a' := rfl
end

section
variable (s : State)
@[simp] theorem countFrame_v : (s.countFrame).v = s.v := rfl
@[simp] theorem countFrame_pc : (s.countFrame).pc = s.pc := rfl
@[simp] theorem countFrame_i : (s.countFrame).i = s.i := rfl
@[simp] theorem countFrame_stack : (s.countFrame).stack = s.stack := rfl
@[simp] theorem countFrame_sp : (s.countFrame).sp = s.sp := rfl
@[simp] theorem countFrame_dt : (s.countFrame).dt = s.dt := rfl
@[simp] theorem countFrame_st : (s.countFrame).st = s.st := rfl
@[simp] theorem countFrame_fc : (s.countFrame).fc = s.fc + 1 := rfl
@[simp] theorem countFrame_speed : (s.countFrame).speed = s.speed := rfl
@[simp] theorem countFrame_paused : (s.countFrame).paused = s.paused := rfl
@[simp] theorem countFrame_faultReason : (s.countFrame).faultReason = s.faultReason := rfl
@[simp] theorem countFrame_mem : (s.countFrame).mem = s.mem := rfl
@[simp] theorem countFrame_fb : (s.countFrame).fb = s.fb := rfl
@[simp] theorem countFrame_keys : (s.countFrame).keys = s.keys := rfl
@[simp] theorem countFrame_pending : (s.countFrame).pending = s.pending := rfl
@[simp] theorem countFrame_config : (s.countFrame).config = s.config := rfl
@[simp] theorem countFrame_rngDraws : (s.countFrame).rngDraws = s.rngDraws := rfl
@[simp] theorem countFrame_reg (r' : Reg) : (s.countFrame).reg r' = s.reg r' := rfl
@[simp] theorem countFrame_readByte (a' : Nat) : (s.countFrame).readByte a' = s.readByte a' := rfl
end

section
variable (s : State)
@[simp] theorem beginCycle_v : s.beginCycle.v = s.v := by unfold State.beginCycle; split <;> rfl
@[simp] theorem beginCycle_pc : s.beginCycle.pc = s.pc := by unfold State.beginCycle; split <;> rfl
@[simp] theorem beginCycle_i : s.beginCycle.i = s.i := by unfold State.beginCycle; split <;> rfl
@[simp] theorem beginCycle_stack : s.beginCycle.stack = s.stack := by unfold State.beginCycle; split <;> rfl
@[simp] theorem beginCycle_sp : s.beginCycle.sp = s.sp := by unfold State.beginCycle; split <;> rfl
theorem beginCycle_dt :
    s.beginCycle.dt = if (s.fc + 1) % s.speed = 0 then tickDown s.dt else s.dt := by
  by_cases h : (s.fc + 1) % s.speed = 0 <;> simp [State.beginCycle, h]
theorem beginCycle_st :
    s.beginCycle.st = if (s.fc + 1) % s.speed = 0 then tickDown s.st else s.st := by
  by_cases h : (s.fc + 1) % s.speed = 0 <;> simp [State.beginCycle, h]
@[simp] theorem beginCycle_fc : s.beginCycle.fc = s.fc + 1 := by unfold State.beginCycle; split <;> rfl
@[simp] theorem beginCycle_speed : s.beginCycle.speed = s.speed := by unfold State.beginCycle; split <;> rfl
@[simp] theorem beginCycle_paused : s.beginCycle.paused = s.paused := by unfold State.beginCycle; split <;> rfl
@[simp] theorem beginCycle_faultReason : s.beginCycle.faultReason = s.faultReason := by unfold State.beginCycle; split <;> rfl
@[simp] theorem beginCycle_mem : s.beginCycle.mem = s.mem := by unfold State.beginCycle; split <;> rfl
@[simp] theorem beginCycle_fb : s.beginCycle.fb = s.fb := by unfold State.beginCycle; split <;> rfl
@[simp] theorem beginCycle_keys : s.beginCycle.keys = s.keys := by unfold State.beginCycle; split <;> rfl
@[simp] theorem beginCycle_pending : s.beginCycle.pending = s.pending := by unfold State.beginCycle; split <;> rfl
@[simp] theorem beginCycle_config : s.beginCycle.config = s.config := by unfold State.beginCycle; split <;> rfl
@[simp] theorem beginCycle_rngDraws : s.beginCycle.rngDraws = s.rngDraws := by unfold State.beginCycle; split <;> rfl
@[simp] theorem beginCycle_reg (r : Reg) : s.beginCycle.reg r = s.reg r := by simp [State.reg]
@[simp] theorem beginCycle_readByte (a : Nat) : s.beginCycle.readByte a = s.readByte a := by simp [State.readByte]
@[simp] theorem endCycle_v : s.endCycle.v = s.v := by unfold State.endCycle; split <;> rfl
@[simp] theorem endCycle_pc : s.endCycle.pc = s.pc := by unfold State.endCycle; split <;> rfl
@[simp] theorem endCycle_i : s.endCycle.i = s.i := by unfold State.endCycle; split <;> rfl
@[simp] theorem endCycle_stack : s.endCycle.stack = s.stack := by unfold State.endCycle; split <;> rfl
@[simp] theorem endCycle_sp : s.endCycle.sp = s.sp := by unfold State.endCycle; split <;> rfl
@[simp] theorem endCycle_dt : s.endCycle.dt = s.dt := by unfold State.endCycle; split <;> rfl
@[simp] theorem endCycle_st : s.endCycle.st = s.st := by unfold State.endCycle; split <;> rfl
theorem endCycle_fc : s.endCycle.fc = if s.config.tickReset = .onStep then 0 else s.fc := by
  unfold State.endCycle; split <;> simp_all
@[simp] theorem endCycle_speed : s.endCycle.speed = s.speed := by unfold State.endCycle; split <;> rfl
@[simp] theorem endCycle_paused : s.endCycle.paused = s.paused := by unfold State.endCycle; split <;> rfl
@[simp] theorem endCycle_faultReason : s.endCycle.faultReason = s.faultReason := by unfold State.endCycle; split <;> rfl
@[simp] theorem endCycle_mem : s.endCycle.mem = s.mem := by unfold State.endCycle; split <;> rfl
@[simp] theorem endCycle_fb : s.endCycle.fb = s.fb := by unfold State.endCycle; split <;> rfl
@[simp] theorem endCycle_keys : s.endCycle.keys = s.keys := by unfold State.endCycle; split <;> rfl
@[simp] theorem endCycle_pending : s.endCycle.pending = s.pending := by unfold State.endCycle; split <;> rfl
@[simp] theorem endCycle_config : s.endCycle.config = s.config := by unfold State.endCycle; split <;> rfl
@[simp] theorem endCycle_rngDraws : s.endCycle.rngDraws = s.rngDraws := by unfold State.endCycle; split <;> rfl
end

end Sys2Proof.Machine
end

