-- ==== Sys2Proof/Laws/Ops.lean ====
section
/-!
SUPPORT. What each shared operation does, said once: registers, memory, stack, block moves, drawing, fetch and the cycle.
-/

namespace Sys2Proof.Machine

section Registers
variable (s : State)

@[simp] theorem reg_setReg_same (r : Reg) (b : Byte) : (s.setReg r b).reg r = b := by
  simp [State.reg, State.setReg]

theorem reg_setReg_other {r r' : Reg} (b : Byte) (h : r' ≠ r) : (s.setReg r b).reg r' = s.reg r' := by
  have : (r : Nat) ≠ (r' : Nat) := fun e => h (Fin.ext e.symm)
  simp [State.reg, State.setReg, Vector.getElem_set_ne, this]

theorem reg_setReg (r r' : Reg) (b : Byte) : (s.setReg r b).reg r' = if r' = r then b else s.reg r' := by
  split
  · next h => rw [h, reg_setReg_same]
  · next h => exact reg_setReg_other s b h

@[simp] theorem reg_setFlag_same (h : Bool) : (s.setFlag h).reg VF = flagByte h := reg_setReg_same s VF _

theorem reg_setFlag_other {r : Reg} (h : Bool) (hr : r ≠ VF) : (s.setFlag h).reg r = s.reg r :=
  reg_setReg_other s _ hr

/-- R140: VF is written last. -/
@[simp] theorem reg_setResultAndFlag_flag (x : Reg) (b : Byte) (h : Bool) :
    (s.setResultAndFlag x b h).reg VF = flagByte h := reg_setFlag_same _ h

theorem reg_setResultAndFlag_result {x : Reg} (b : Byte) (h : Bool) (hx : x ≠ VF) :
    (s.setResultAndFlag x b h).reg x = b := by
  rw [State.setResultAndFlag, reg_setFlag_other _ _ hx, reg_setReg_same]

theorem reg_setResultAndFlag_other {x r : Reg} (b : Byte) (h : Bool) (hr : r ≠ x) (hf : r ≠ VF) :
    (s.setResultAndFlag x b h).reg r = s.reg r := by
  rw [State.setResultAndFlag, reg_setFlag_other _ _ hf, reg_setReg_other _ _ hr]

end Registers

section Memory
variable (s : State)

@[simp] theorem addrOperand_toNat (nnn : Addr) : (addrOperand nnn).toNat = nnn.toNat := by
  simp [addrOperand]; omega

@[simp] theorem setIndex_base (w : Word) : (s.setIndex w).base = w.toNat := rfl

theorem readByte_writeByte_same {a : Nat} (b : Byte) (h : a < memorySize) : (s.writeByte a b).readByte a = b :=
  Memory.read_write_same _ _ b h

theorem readByte_writeByte_other {a c : Nat} (b : Byte) (h : c ≠ a) : (s.writeByte a b).readByte c = s.readByte c :=
  Memory.read_write_other _ _ b h

theorem readByte_writeBytes_outside (a : Nat) (bs : List Byte) {c : Nat} (h : c < a ∨ a + bs.length ≤ c) :
    (s.writeBytes a bs).readByte c = s.readByte c := Memory.read_writeAll_outside _ bs _ a c h

theorem readByte_writeBytes_inside (a : Nat) (bs : List Byte) {k : Nat} (hk : k < bs.length)
    (hr : a + bs.length ≤ memorySize) : (s.writeBytes a bs).readByte (a + k) = bs[k] :=
  Memory.read_writeAll_inside _ bs _ a k hk hr

theorem rangeFaults_eq_false_iff {a k : Nat} : rangeFaults a k = false ↔ k = 0 ∨ a + k ≤ memorySize := by
  simp only [rangeFaults, memorySize, Bool.and_eq_false_iff, decide_eq_false_iff_not]; omega

theorem rangeFaults_eq_true_iff {a k : Nat} : rangeFaults a k = true ↔ 0 < k ∧ memorySize < a + k := by
  simp only [rangeFaults, memorySize, Bool.and_eq_true, decide_eq_true_eq]; omega

end Memory

section Blocks
variable (s : State)

@[simp] theorem regList_length (k : Nat) : (s.regList k).length = k := by
  induction k with
  | zero => rfl
  | succ k ih => simp [State.regList, ih]

/-- Byte k of the block Fx55 stores is V[k] (R175). -/
theorem regList_getElem {count k : Nat} (h : k < (s.regList count).length) :
    (s.regList count)[k] = s.reg (Fin.ofNat 16 k) := by
  induction count with
  | zero => simp [State.regList] at h
  | succ n ih =>
    simp only [State.regList, List.getElem_append, regList_length]
    split
    · next hk => exact ih (by simpa using hk)
    · next hk =>
      have : k = n := by simp [State.regList] at h; omega
      subst this; simp

/-- Fx65's loop changes V alone. -/
theorem loadRegs_eq (a count : Nat) : s.loadRegs a count = { s with v := (s.loadRegs a count).v } := by
  induction count with
  | zero => rfl
  | succ k ih => rw [State.loadRegs, ih]; rfl

/-- Each register below the count holds its byte; the others hold what they held (R176). -/
theorem loadRegs_reg (a count : Nat) (hc : count ≤ 16) (r : Reg) :
    (s.loadRegs a count).reg r = if r.val < count then s.readByte (a + r.val) else s.reg r := by
  induction count with
  | zero => rfl
  | succ k ih =>
    have ih := ih (by omega)
    rw [State.loadRegs, reg_setReg]
    by_cases hr : r = Fin.ofNat 16 k
    · have : r.val = k := by subst hr; simp; omega
      simp [hr, Nat.mod_eq_of_lt (show k < 16 by omega)]
    · have hne : r.val ≠ k := fun e => hr (Fin.ext (by simp [e]; omega))
      rw [if_neg hr, ih]
      by_cases h : r.val < k
      · simp [h, Nat.lt_succ_of_lt h]
      · rw [if_neg h, if_neg (by omega)]

end Blocks

section BlockFields
variable (s : State) (a n : Nat)
@[simp] theorem loadRegs_pc : (s.loadRegs a n).pc = s.pc := by rw [loadRegs_eq]
@[simp] theorem loadRegs_i : (s.loadRegs a n).i = s.i := by rw [loadRegs_eq]
@[simp] theorem loadRegs_stack : (s.loadRegs a n).stack = s.stack := by rw [loadRegs_eq]
@[simp] theorem loadRegs_sp : (s.loadRegs a n).sp = s.sp := by rw [loadRegs_eq]
@[simp] theorem loadRegs_dt : (s.loadRegs a n).dt = s.dt := by rw [loadRegs_eq]
@[simp] theorem loadRegs_st : (s.loadRegs a n).st = s.st := by rw [loadRegs_eq]
@[simp] theorem loadRegs_fc : (s.loadRegs a n).fc = s.fc := by rw [loadRegs_eq]
@[simp] theorem loadRegs_speed : (s.loadRegs a n).speed = s.speed := by rw [loadRegs_eq]
@[simp] theorem loadRegs_paused : (s.loadRegs a n).paused = s.paused := by rw [loadRegs_eq]
@[simp] theorem loadRegs_faultReason : (s.loadRegs a n).faultReason = s.faultReason := by rw [loadRegs_eq]
@[simp] theorem loadRegs_mem : (s.loadRegs a n).mem = s.mem := by rw [loadRegs_eq]
@[simp] theorem loadRegs_fb : (s.loadRegs a n).fb = s.fb := by rw [loadRegs_eq]
@[simp] theorem loadRegs_keys : (s.loadRegs a n).keys = s.keys := by rw [loadRegs_eq]
@[simp] theorem loadRegs_pending : (s.loadRegs a n).pending = s.pending := by rw [loadRegs_eq]
@[simp] theorem loadRegs_config : (s.loadRegs a n).config = s.config := by rw [loadRegs_eq]
@[simp] theorem loadRegs_rngDraws : (s.loadRegs a n).rngDraws = s.rngDraws := by rw [loadRegs_eq]
@[simp] theorem loadRegs_readByte (b : Nat) : (s.loadRegs a n).readByte b = s.readByte b := by simp [State.readByte]
end BlockFields

section Stack
variable (s : State)

theorem stackEntry_eq_some {sp : Int} (h0 : 0 ≤ sp) (h1 : sp < 16) :
    stackEntry sp = some ⟨sp.toNat, by omega⟩ := by simp [stackEntry, h0, h1]

/-- What is pushed is on top (R124). -/
theorem stackTop_push {w : Word} (h0 : -1 ≤ s.sp) (h1 : s.sp < 15) : (s.push w).stackTop = w := by
  have e := stackEntry_eq_some (sp := s.sp + 1) (by omega) (by omega)
  simp [State.stackTop, State.push, e]

end Stack

section Drawing
variable (s : State)

theorem Framebuffer.cell_xorCell (fb : Framebuffer) (x x' : Fin 64) (y y' : Fin 32) (b : Bool) :
    (fb.xorCell x y b).cell x' y' = (fb.cell x' y' ^^ (decide (x' = x ∧ y' = y) && b)) := by
  unfold Framebuffer.xorCell Framebuffer.cell
  by_cases hy : y' = y
  · subst hy
    by_cases hx : x' = x
    · subst hx; simp
    · have : (x : Nat) ≠ (x' : Nat) := fun e => hx (Fin.ext e.symm)
      simp [hx, Vector.getElem_set_ne, this]
  · have : (y : Nat) ≠ (y' : Nat) := fun e => hy (Fin.ext e.symm)
    simp [hy, Vector.getElem_set_ne, this]

@[simp] theorem Framebuffer.cell_blank (x : Fin 64) (y : Fin 32) : Framebuffer.blank.cell x y = false := by
  simp [Framebuffer.blank, Framebuffer.cell]

/-- Two framebuffers with the same cells are the same. -/
theorem Framebuffer.ext_cell {f g : Framebuffer} (h : ∀ x y, f.cell x y = g.cell x y) : f = g := by
  apply Vector.ext; intro y hy
  apply Vector.ext; intro x hx
  exact h ⟨x, hx⟩ ⟨y, hy⟩

/-- One drawPixel of DRW changes the framebuffer and VF alone. -/
theorem drawBit_eq (o : Origin) (x y : Reg) (row col : Nat) (b : Bool) :
    s.drawBit o x y row col b =
      { s with v := (s.drawBit o x y row col b).v, fb := (s.drawBit o x y row col b).fb } := by
  unfold State.drawBit; dsimp only; split <;> rfl

theorem drawBit_reg (o : Origin) (x y : Reg) (row col : Nat) (b : Bool) {r : Reg} (hr : r ≠ VF) :
    (s.drawBit o x y row col b).reg r = s.reg r := by
  unfold State.drawBit; dsimp only; split
  · exact reg_setFlag_other _ _ hr
  · rfl

theorem drawCols_eq (o : Origin) (x y : Reg) (row : Nat) (byte : Byte) (n : Nat) :
    s.drawCols o x y row byte n =
      { s with v := (s.drawCols o x y row byte n).v, fb := (s.drawCols o x y row byte n).fb } := by
  induction n with
  | zero => rfl
  | succ n ih => rw [State.drawCols, drawBit_eq, ih]

theorem drawCols_reg (o : Origin) (x y : Reg) (row : Nat) (byte : Byte) (n : Nat) {r : Reg} (hr : r ≠ VF) :
    (s.drawCols o x y row byte n).reg r = s.reg r := by
  induction n with
  | zero => rfl
  | succ n ih => rw [State.drawCols, drawBit_reg _ _ _ _ _ _ _ hr, ih]

/-- DRW's loop changes the framebuffer and VF alone. -/
theorem drawRows_eq (o : Origin) (x y : Reg) (n : Nat) :
    s.drawRows o x y n = { s with v := (s.drawRows o x y n).v, fb := (s.drawRows o x y n).fb } := by
  induction n with
  | zero => rfl
  | succ n ih => rw [State.drawRows, drawCols_eq, ih]

theorem drawRows_reg (o : Origin) (x y : Reg) (n : Nat) {r : Reg} (hr : r ≠ VF) :
    (s.drawRows o x y n).reg r = s.reg r := by
  induction n with
  | zero => rfl
  | succ n ih => rw [State.drawRows, drawCols_reg _ _ _ _ _ _ _ hr, ih]

end Drawing

section DrawFields
variable (s : State) (o : Origin) (x y : Reg) (row n : Nat) (byte : Byte)
@[simp] theorem drawCols_pc : (s.drawCols o x y row byte n).pc = s.pc := by rw [drawCols_eq]
@[simp] theorem drawRows_pc : (s.drawRows o x y n).pc = s.pc := by rw [drawRows_eq]
@[simp] theorem drawCols_i : (s.drawCols o x y row byte n).i = s.i := by rw [drawCols_eq]
@[simp] theorem drawRows_i : (s.drawRows o x y n).i = s.i := by rw [drawRows_eq]
@[simp] theorem drawCols_stack : (s.drawCols o x y row byte n).stack = s.stack := by rw [drawCols_eq]
@[simp] theorem drawRows_stack : (s.drawRows o x y n).stack = s.stack := by rw [drawRows_eq]
@[simp] theorem drawCols_sp : (s.drawCols o x y row byte n).sp = s.sp := by rw [drawCols_eq]
@[simp] theorem drawRows_sp : (s.drawRows o x y n).sp = s.sp := by rw [drawRows_eq]
@[simp] theorem drawCols_dt : (s.drawCols o x y row byte n).dt = s.dt := by rw [drawCols_eq]
@[simp] theorem drawRows_dt : (s.drawRows o x y n).dt = s.dt := by rw [drawRows_eq]
@[simp] theorem drawCols_st : (s.drawCols o x y row byte n).st = s.st := by rw [drawCols_eq]
@[simp] theorem drawRows_st : (s.drawRows o x y n).st = s.st := by rw [drawRows_eq]
@[simp] theorem drawCols_fc : (s.drawCols o x y row byte n).fc = s.fc := by rw [drawCols_eq]
@[simp] theorem drawRows_fc : (s.drawRows o x y n).fc = s.fc := by rw [drawRows_eq]
@[simp] theorem drawCols_speed : (s.drawCols o x y row byte n).speed = s.speed := by rw [drawCols_eq]
@[simp] theorem drawRows_speed : (s.drawRows o x y n).speed = s.speed := by rw [drawRows_eq]
@[simp] theorem drawCols_paused : (s.drawCols o x y row byte n).paused = s.paused := by rw [drawCols_eq]
@[simp] theorem drawRows_paused : (s.drawRows o x y n).paused = s.paused := by rw [drawRows_eq]
@[simp] theorem drawCols_faultReason : (s.drawCols o x y row byte n).faultReason = s.faultReason := by rw [drawCols_eq]
@[simp] theorem drawRows_faultReason : (s.drawRows o x y n).faultReason = s.faultReason := by rw [drawRows_eq]
@[simp] theorem drawCols_mem : (s.drawCols o x y row byte n).mem = s.mem := by rw [drawCols_eq]
@[simp] theorem drawRows_mem : (s.drawRows o x y n).mem = s.mem := by rw [drawRows_eq]
@[simp] theorem drawCols_keys : (s.drawCols o x y row byte n).keys = s.keys := by rw [drawCols_eq]
@[simp] theorem drawRows_keys : (s.drawRows o x y n).keys = s.keys := by rw [drawRows_eq]
@[simp] theorem drawCols_pending : (s.drawCols o x y row byte n).pending = s.pending := by rw [drawCols_eq]
@[simp] theorem drawRows_pending : (s.drawRows o x y n).pending = s.pending := by rw [drawRows_eq]
@[simp] theorem drawCols_config : (s.drawCols o x y row byte n).config = s.config := by rw [drawCols_eq]
@[simp] theorem drawRows_config : (s.drawRows o x y n).config = s.config := by rw [drawRows_eq]
@[simp] theorem drawCols_rngDraws : (s.drawCols o x y row byte n).rngDraws = s.rngDraws := by rw [drawCols_eq]
@[simp] theorem drawRows_rngDraws : (s.drawRows o x y n).rngDraws = s.rngDraws := by rw [drawRows_eq]
@[simp] theorem drawCols_readByte (b : Nat) : (s.drawCols o x y row byte n).readByte b = s.readByte b := by
  simp [State.readByte]
@[simp] theorem drawRows_readByte (b : Nat) : (s.drawRows o x y n).readByte b = s.readByte b := by simp [State.readByte]
end DrawFields

section Cycle
variable (s : State)

theorem fetch_ok (h : s.pc.toNat ≤ 4094) :
    s.fetch = .ok (wordOfBytes (s.readByte s.pc.toNat) (s.readByte (s.pc.toNat + 1))) := by
  rw [State.fetch, if_neg (by omega)]

theorem fetch_error (h : 4095 ≤ s.pc.toNat) : s.fetch = .error .memoryOutOfBounds := by
  rw [State.fetch, if_pos (by omega)]

theorem wordOfBytes_split (w : Word) : wordOfBytes (lowerAddressByte w) (higherAddressByte w) = w := by
  unfold wordOfBytes lowerAddressByte higherAddressByte
  ext k hk
  simp only [BitVec.getElem_append, BitVec.getElem_extractLsb']
  split <;> simp_all [BitVec.getLsbD_eq_getElem]

/-- Where a word was placed for the next fetch, that fetch reads it. -/
theorem fetch_placeWord (w : Word) : (s.placeWord w).fetch = .ok w := by
  unfold State.placeWord
  generalize hr : (if s.paused then { s with paused := false, faultReason := none } else s) = ready
  dsimp only
  generalize hp : (if 4094 < ready.pc.toNat then ready.jumpTo 0x200 else ready) = placed
  have hpc : placed.pc.toNat ≤ 4094 := by
    subst hp; split
    · simp
    · omega
  rw [fetch_ok _ (by simpa using hpc)]
  simp only [writeByte_pc]
  rw [readByte_writeByte_other _ _ (by omega), readByte_writeByte_same _ _ (by simp [memorySize]; omega),
    readByte_writeByte_same _ _ (by simp [memorySize]; omega), wordOfBytes_split]

theorem runCycle_paused (h : s.paused = true) : s.runCycle = .next s.beginCycle := by
  simp [State.runCycle, h]

theorem runCycle_running (h : s.paused = false) : s.runCycle = closeCycle s.beginCycle.runStep := by
  simp [State.runCycle, h]

end Cycle

end Sys2Proof.Machine
end

