-- ==== Sys2Proof/Laws/MemoryUse.lean ====
section
/-!
SUPPORT. spec/20_memory.md R72 with the table of R66: no instruction is a read-modify-write of memory. One that reads data
memory stores nothing; one that stores computes the same bytes, and everything else, whatever memory holds.
-/

namespace Sys2Proof.Machine

theorem regList_setMem (s : State) (m : Memory) (k : Nat) : ({ s with mem := m } : State).regList k = s.regList k := by
  induction k with
  | zero => rfl
  | succ k ih => rw [State.regList, State.regList, ih]; rfl

theorem awaitedKey_setMem (s : State) (m : Memory) : ({ s with mem := m } : State).awaitedKey = s.awaitedKey := rfl

/-- An instruction that is no store leaves memory as it is. -/
theorem exec_loads_store_nothing {i : Instr} {s t : State} (hi : memoryUse i ≠ .stores) (h : exec i s = .next t) :
    t.mem = s.mem := by
  cases i <;> first
    | exact absurd rfl hi
    | (cases h; rfl)
    | (simp only [exec, execRet, execCall, execLdFVx, execDrw, execLdVxMem, raiseFatal] at h
       split at h <;> cases h <;> simp [State.enterFatal, State.advance, State.jumpTo, State.push, State.pop,
         State.setIndex, State.setFlag, State.setReg])
    | (simp only [exec, execLdVxK] at h
       split at h <;> cases h <;> rfl)

/-- An instruction that is no load does the same over every memory: the bytes it stores from I (none, unless it is a store),
and the whole rest of the state after it, do not depend on what memory held. -/
theorem exec_stores_read_nothing {i : Instr} {s t : State} (hi : memoryUse i ≠ .loads) (h : exec i s = .next t) :
    ∃ stored : List Byte, ∀ m : Memory,
      exec i { s with mem := m } = .next { t with mem := m.writeAll s.config.font s.base stored } := by
  cases i <;> first
    | exact absurd rfl hi
    | (cases h; exact ⟨[], fun _ => rfl⟩)
    | (simp only [exec, execRet, execCall, execLdFVx, raiseFatal] at h
       split at h <;> cases h <;> exact ⟨[], fun m => by
         simp only [exec, execRet, execCall, execLdFVx, raiseFatal]; split <;> first | rfl | contradiction⟩)
    | skip
  case ldBVx x =>
    simp only [exec, execLdBVx] at h
    split at h
    · next hr => cases h; exact ⟨[], fun _ => if_pos hr⟩
    · next hr => cases h; exact ⟨bcdDigits (s.reg x), fun _ => if_neg hr⟩
  case ldMemVx x =>
    simp only [exec, execLdMemVx] at h
    split at h
    · next hr => cases h; exact ⟨[], fun _ => if_pos hr⟩
    · next hr =>
      cases h
      refine ⟨s.regList (regCount x), fun m => (if_neg hr).trans ?_⟩
      rw [regList_setMem]; rfl
  case ldVxK x =>
    simp only [exec, execLdVxK] at h
    split at h
    · next hk => cases h; exact ⟨[], fun _ => by simp only [exec, execLdVxK, awaitedKey_setMem, hk]; rfl⟩
    · next k hk => cases h; exact ⟨[], fun _ => by simp only [exec, execLdVxK, awaitedKey_setMem, hk]; rfl⟩

/-- R72: no instruction both reads data memory and stores to it: whichever it is, it stores nothing, or what it stores and
leaves does not depend on what memory held. -/
theorem no_instruction_is_a_read_modify_write {i : Instr} {s t : State} (h : exec i s = .next t) :
    t.mem = s.mem ∨ ∃ stored : List Byte, ∀ m : Memory,
      exec i { s with mem := m } = .next { t with mem := m.writeAll s.config.font s.base stored } := by
  by_cases hi : memoryUse i = .stores
  · exact .inr (exec_stores_read_nothing (by simp [hi]) h)
  · exact .inl (exec_loads_store_nothing hi h)

end Sys2Proof.Machine
end

