-- ==== Sys2Proof/Laws/PerInstr.lean ====
section
/-!
SUPPORT. The laws made per instruction. InOwnRow: an instruction's word is one its own row of spec/30_encoding.md R85 selects
(the two exact words by themselves, R86), and that row builds the instruction back from the word, every operand with it.
-/

namespace Sys2Proof.Laws.InOwnRow

/-- The encoded word is CLS's or RET's own word, or row k selects it and rebuilds the instruction from its fields. -/
def Statement (i : Instr) : Prop :=
  (i = .cls ∧ encode i = 0x00E0) ∨ (i = .ret ∧ encode i = 0x00EE) ∨
    ∃ (k : Nat) (r : OpcodeRow), opcodeRows[k]? = some r ∧ r.selects (encode i) = true ∧ r.build (encode i) = i

theorem of_row {i : Instr} (k : Nat) {r : OpcodeRow} (h : opcodeRows[k]? = some r)
    (hs : encode i &&& r.mask = r.pattern) (hb : r.build (encode i) = i) : Statement i :=
  Or.inr (Or.inr ⟨k, r, h, by simpa [OpcodeRow.selects] using hs, hb⟩)

theorem cls : Statement .cls := Or.inl ⟨rfl, rfl⟩

theorem ret : Statement .ret := Or.inr (Or.inl ⟨rfl, rfl⟩)

theorem sys (nnn : Addr) : Statement (.sys nnn) :=
  of_row 0 rfl ((formatA_and_F000 ..).trans rfl) (by simp [encode])

theorem jp (nnn : Addr) : Statement (.jp nnn) :=
  of_row 1 rfl ((formatA_and_F000 ..).trans rfl) (by simp [encode])

theorem call (nnn : Addr) : Statement (.call nnn) :=
  of_row 2 rfl ((formatA_and_F000 ..).trans rfl) (by simp [encode])

theorem seVxNn (x : Reg) (nn : Byte) : Statement (.seVxNn x nn) :=
  of_row 3 rfl ((formatXB_and_F000 ..).trans rfl) (by simp [encode])

theorem sneVxNn (x : Reg) (nn : Byte) : Statement (.sneVxNn x nn) :=
  of_row 4 rfl ((formatXB_and_F000 ..).trans rfl) (by simp [encode])

theorem seVxVy (x y : Reg) : Statement (.seVxVy x y) :=
  of_row 5 rfl ((formatXY_and_F00F ..).trans rfl) (by simp [encode])

theorem ldVxNn (x : Reg) (nn : Byte) : Statement (.ldVxNn x nn) :=
  of_row 6 rfl ((formatXB_and_F000 ..).trans rfl) (by simp [encode])

theorem addVxNn (x : Reg) (nn : Byte) : Statement (.addVxNn x nn) :=
  of_row 7 rfl ((formatXB_and_F000 ..).trans rfl) (by simp [encode])

theorem sneVxVy (x y : Reg) : Statement (.sneVxVy x y) :=
  of_row 8 rfl ((formatXY_and_F00F ..).trans rfl) (by simp [encode])

theorem ldI (nnn : Addr) : Statement (.ldI nnn) :=
  of_row 9 rfl ((formatA_and_F000 ..).trans rfl) (by simp [encode])

theorem jpV0 (nnn : Addr) : Statement (.jpV0 nnn) :=
  of_row 10 rfl ((formatA_and_F000 ..).trans rfl) (by simp [encode])

theorem rnd (x : Reg) (nn : Byte) : Statement (.rnd x nn) :=
  of_row 11 rfl ((formatXB_and_F000 ..).trans rfl) (by simp [encode])

theorem drw (x y : Reg) (n : Fin 16) : Statement (.drw x y n) :=
  of_row 12 rfl ((formatXY_and_F000 ..).trans rfl) (by simp [encode])

theorem ldVxVy (x y : Reg) : Statement (.ldVxVy x y) :=
  of_row 13 rfl ((formatXY_and_F00F ..).trans rfl) (by simp [encode])

theorem or (x y : Reg) : Statement (.or x y) :=
  of_row 14 rfl ((formatXY_and_F00F ..).trans rfl) (by simp [encode])

theorem and (x y : Reg) : Statement (.and x y) :=
  of_row 15 rfl ((formatXY_and_F00F ..).trans rfl) (by simp [encode])

theorem xor (x y : Reg) : Statement (.xor x y) :=
  of_row 16 rfl ((formatXY_and_F00F ..).trans rfl) (by simp [encode])

theorem addVxVy (x y : Reg) : Statement (.addVxVy x y) :=
  of_row 17 rfl ((formatXY_and_F00F ..).trans rfl) (by simp [encode])

theorem sub (x y : Reg) : Statement (.sub x y) :=
  of_row 18 rfl ((formatXY_and_F00F ..).trans rfl) (by simp [encode])

theorem shr (x y : Reg) : Statement (.shr x y) :=
  of_row 19 rfl ((formatXY_and_F00F ..).trans rfl) (by simp [encode])

theorem subn (x y : Reg) : Statement (.subn x y) :=
  of_row 20 rfl ((formatXY_and_F00F ..).trans rfl) (by simp [encode])

theorem shl (x y : Reg) : Statement (.shl x y) :=
  of_row 21 rfl ((formatXY_and_F00F ..).trans rfl) (by simp [encode])

theorem skp (x : Reg) : Statement (.skp x) :=
  of_row 22 rfl ((formatXB_and_F0FF ..).trans rfl) (by simp [encode])

theorem sknp (x : Reg) : Statement (.sknp x) :=
  of_row 23 rfl ((formatXB_and_F0FF ..).trans rfl) (by simp [encode])

theorem ldVxDt (x : Reg) : Statement (.ldVxDt x) :=
  of_row 24 rfl ((formatXB_and_F0FF ..).trans rfl) (by simp [encode])

theorem ldVxK (x : Reg) : Statement (.ldVxK x) :=
  of_row 25 rfl ((formatXB_and_F0FF ..).trans rfl) (by simp [encode])

theorem ldDtVx (x : Reg) : Statement (.ldDtVx x) :=
  of_row 26 rfl ((formatXB_and_F0FF ..).trans rfl) (by simp [encode])

theorem ldStVx (x : Reg) : Statement (.ldStVx x) :=
  of_row 27 rfl ((formatXB_and_F0FF ..).trans rfl) (by simp [encode])

theorem addIVx (x : Reg) : Statement (.addIVx x) :=
  of_row 28 rfl ((formatXB_and_F0FF ..).trans rfl) (by simp [encode])

theorem ldFVx (x : Reg) : Statement (.ldFVx x) :=
  of_row 29 rfl ((formatXB_and_F0FF ..).trans rfl) (by simp [encode])

theorem ldBVx (x : Reg) : Statement (.ldBVx x) :=
  of_row 30 rfl ((formatXB_and_F0FF ..).trans rfl) (by simp [encode])

theorem ldMemVx (x : Reg) : Statement (.ldMemVx x) :=
  of_row 31 rfl ((formatXB_and_F0FF ..).trans rfl) (by simp [encode])

theorem ldVxMem (x : Reg) : Statement (.ldVxMem x) :=
  of_row 32 rfl ((formatXB_and_F0FF ..).trans rfl) (by simp [encode])

end Sys2Proof.Laws.InOwnRow
end

