-- ==== Sys2Proof/Tests/Slice0.lean ====
section
/-!
SUPPORT. Tests of one step each, with expected results from spec/95_test_vectors.md (V-..., E...) or worked out by hand from the
rule named; the smoke test of WellFormed; and for every statement with hypotheses a witness that meets them, at the boundary
values of its clauses.
-/

open Sys2Proof Sys2Proof.Machine Sys2Proof.Claims

namespace Sys2Proof.Tests

/-- Reset with the listed registers set. -/
def withRegs (rs : List (Reg × Byte)) : State := rs.foldl (fun s p => s.setReg p.1 p.2) State.reset

/-- Reset with the listed bytes stored from 0x300 and I there. -/
def withBytes (bs : List Byte) (s : State) : State := (s.writeBytes 0x300 bs).setIndex 0x300

/-- The state a meaning answers. -/
def answered : Result → State
  | .next t => t
  | .fault f => nomatch f
  | .refused _ => State.reset

/-- Whether a meaning answers a next state. -/
def isNext : Result → Bool
  | .next _ => true
  | .fault f => nomatch f
  | .refused _ => false

theorem eq_next {r : Result} (h : isNext r = true) : r = .next (answered r) := by
  cases r with
  | next t => rfl
  | fault f => exact nomatch f
  | refused _ => cases h

/-- The state after an instruction. -/
def run (i : Instr) (s : State) : State := answered (exec i s)

/-! WellFormed's smoke test: SYS's two missing words (R86). -/

theorem test_wellFormed_refuses_sys_of_cls : (Instr.sys 0x0E0).wellFormed = false := by decide
theorem test_wellFormed_refuses_sys_of_ret : (Instr.sys 0x0EE).wellFormed = false := by decide
theorem test_wellFormed_accepts_sys : (Instr.sys 0x0E1).wellFormed = true := by decide

/-! Decoding: words written out from R83 and R85, one or more a family; V-DEC-01 to V-DEC-15. -/

theorem test_decode_control :
    decode 0x00E0 = .ok .cls ∧ decode 0x00EE = .ok .ret ∧ decode 0x0000 = .ok (.sys 0) ∧ decode 0x0FFF = .ok (.sys 0xFFF) ∧
    decode 0x1204 = .ok (.jp 0x204) ∧ decode 0x2210 = .ok (.call 0x210) ∧ decode 0x3342 = .ok (.seVxNn 3 0x42) ∧
    decode 0x4342 = .ok (.sneVxNn 3 0x42) ∧ decode 0x5120 = .ok (.seVxVy 1 2) ∧ decode 0x9120 = .ok (.sneVxVy 1 2) ∧
    decode 0xB3FF = .ok (.jpV0 0x3FF) := by decide
theorem test_decode_alu :
    decode 0x6005 = .ok (.ldVxNn 0 5) ∧ decode 0x7003 = .ok (.addVxNn 0 3) ∧ decode 0x8120 = .ok (.ldVxVy 1 2) ∧
    decode 0x8121 = .ok (.or 1 2) ∧ decode 0x8122 = .ok (.and 1 2) ∧ decode 0x8123 = .ok (.xor 1 2) ∧
    decode 0x8014 = .ok (.addVxVy 0 1) ∧ decode 0x8235 = .ok (.sub 2 3) ∧ decode 0x8006 = .ok (.shr 0 0) ∧
    decode 0x8327 = .ok (.subn 3 2) ∧ decode 0x812E = .ok (.shl 1 2) ∧ decode 0xC10F = .ok (.rnd 1 0x0F) := by decide
theorem test_decode_index_display :
    decode 0xA234 = .ok (.ldI 0x234) ∧ decode 0xF01E = .ok (.addIVx 0) ∧ decode 0xF429 = .ok (.ldFVx 4) ∧
    decode 0xF033 = .ok (.ldBVx 0) ∧ decode 0xF255 = .ok (.ldMemVx 2) ∧ decode 0xF165 = .ok (.ldVxMem 1) ∧
    decode 0xDAB2 = .ok (.drw 10 11 2) := by decide
theorem test_decode_keys_timers :
    decode 0xE19E = .ok (.skp 1) ∧ decode 0xE0A1 = .ok (.sknp 0) ∧ decode 0xF207 = .ok (.ldVxDt 2) ∧
    decode 0xF30A = .ok (.ldVxK 3) ∧ decode 0xF015 = .ok (.ldDtVx 0) ∧ decode 0xF018 = .ok (.ldStVx 0) := by decide
theorem test_decode_refuses :
    decode 0x5121 = .error .unknownInstruction ∧ decode 0x8128 = .error .unknownInstruction ∧
    decode 0x812F = .error .unknownInstruction ∧ decode 0x9121 = .error .unknownInstruction ∧
    decode 0xE19F = .error .unknownInstruction ∧ decode 0xF000 = .error .unknownInstruction ∧
    decode 0xFFFF = .error .unknownInstruction := by decide
theorem test_decodeTableWord_is_one_big_endian_word :
    decodeTableWord 16 0xDAB2 = some (.drw 10 11 2) ∧ decodeTableWord 16 0x5121 = none := by decide

/-! Control transfer -/

/-- V-CF-01. -/
theorem test_call :
    let t := run (.call 0x210) (State.reset.jumpTo 0x202)
    t.sp = 0 ∧ t.stack[0] = 0x204 ∧ t.pc = 0x210 := by decide
/-- V-CF-02. -/
theorem test_ret :
    let t := run .ret ((State.reset.push 0x204).jumpTo 0x214)
    t.pc = 0x204 ∧ t.sp = -1 ∧ t.stack[0] = 0x204 := by decide
/-- V-CF-03. -/
theorem test_ret_underflow :
    let t := run .ret State.reset
    t.paused = true ∧ t.faultReason = some .stackUnderflow ∧ t.pc = 0x200 ∧ t.sp = -1 := by decide
/-- V-CF-04, E5. -/
theorem test_call_overflow :
    let t := run (.call 0x300) { State.reset with sp := 15 }
    t.paused = true ∧ t.faultReason = some .stackOverflow ∧ t.pc = 0x200 ∧ t.sp = 15 := by decide
/-- V-CF-06. -/
theorem test_sys : (run (.sys 0x300) State.reset).pc = 0x300 := by decide
/-- R123's example. -/
theorem test_jp : (run (.jp 0x204) (State.reset.jumpTo 0x208)).pc = 0x204 := by decide
/-- V-CF-07, E4. -/
theorem test_jpV0 :
    (run (.jpV0 0xFFF) (withRegs [(0, 0xFF)])).pc = 0x10FE ∧ (run (.jpV0 0x200) (withRegs [(0, 0x10)])).pc = 0x210 := by
  decide
/-- V-CF-09 to V-CF-12. -/
theorem test_skips_immediate :
    (run (.seVxNn 1 0x42) (withRegs [(1, 0x42)])).pc = 0x204 ∧ (run (.seVxNn 1 0x42) (withRegs [(1, 0x41)])).pc = 0x202 ∧
    (run (.sneVxNn 1 0x42) (withRegs [(1, 0x41)])).pc = 0x204 ∧
    (run (.sneVxNn 1 0x42) (withRegs [(1, 0x42)])).pc = 0x202 := by decide
/-- V-CF-13 to V-CF-15. -/
theorem test_skips_registers :
    (run (.seVxVy 1 2) (withRegs [(1, 7), (2, 7)])).pc = 0x204 ∧
    (run (.sneVxVy 1 2) (withRegs [(1, 7), (2, 7)])).pc = 0x202 ∧
    (run (.sneVxVy 1 2) (withRegs [(1, 7), (2, 8)])).pc = 0x204 := by decide

/-! Loads and arithmetic -/

/-- V-ALU-28. -/
theorem test_load_immediate : (run (.ldVxNn 15 0x12) State.reset).reg VF = 0x12 := by decide
/-- V-ALU-27. -/
theorem test_add_immediate_no_carry :
    let t := run (.addVxNn 0 0xFF) (withRegs [(0, 1), (15, 0x33)])
    t.reg 0 = 0 ∧ t.reg VF = 0x33 ∧ t.pc = 0x202 := by decide
/-- V-ALU-26. -/
theorem test_copy :
    let t := run (.ldVxVy 0 1) (withRegs [(1, 0x42), (15, 0x55)])
    t.reg 0 = 0x42 ∧ t.reg VF = 0x55 := by decide
/-- V-ALU-23 to V-ALU-25. -/
theorem test_bitwise :
    (run (.or 0 1) (withRegs [(0, 0xF0), (1, 0x0F), (15, 0x55)])).reg 0 = 0xFF ∧
    (run (.and 0 1) (withRegs [(0, 0xF0), (1, 0x3C), (15, 0x55)])).reg 0 = 0x30 ∧
    (run (.xor 0 1) (withRegs [(0, 0xFF), (1, 0x0F), (15, 0x55)])).reg 0 = 0xF0 ∧
    (run (.xor 0 1) (withRegs [(0, 0xFF), (1, 0x0F), (15, 0x55)])).reg VF = 0x55 := by decide
/-- V-ALU-03, V-ALU-05. -/
theorem test_add_carry :
    let t := run (.addVxVy 0 1) (withRegs [(0, 0x80), (1, 0x80)])
    let u := run (.addVxVy 1 15) (withRegs [(1, 0x10), (15, 0xF0)])
    t.reg 0 = 0 ∧ t.reg VF = 1 ∧ u.reg 1 = 0 ∧ u.reg VF = 1 := by decide
/-- V-ALU-04. -/
theorem test_add_into_VF_keeps_the_flag : (run (.addVxVy 15 1) (withRegs [(15, 0xFF), (1, 1)])).reg VF = 1 := by decide
/-- V-ALU-07, V-ALU-08. -/
theorem test_sub :
    let t := run (.sub 0 1) (withRegs [(0, 3), (1, 5)])
    let u := run (.sub 0 1) (withRegs [(0, 5), (1, 5), (15, 9)])
    t.reg 0 = 0xFE ∧ t.reg VF = 0 ∧ u.reg 0 = 0 ∧ u.reg VF = 0 := by decide
/-- V-ALU-10. -/
theorem test_sub_into_VF_keeps_the_flag : (run (.sub 15 1) (withRegs [(15, 5), (1, 3)])).reg VF = 1 := by decide
/-- V-ALU-16, V-ALU-17. -/
theorem test_subn :
    let t := run (.subn 1 2) (withRegs [(1, 3), (2, 5)])
    let u := run (.subn 1 2) (withRegs [(1, 5), (2, 3)])
    t.reg 1 = 2 ∧ t.reg VF = 1 ∧ u.reg 1 = 0xFE ∧ u.reg VF = 0 := by decide
/-- V-ALU-14, V-ALU-15. -/
theorem test_shr :
    let t := run (.shr 1 2) (withRegs [(1, 4), (2, 0xFF), (15, 7)])
    t.reg 1 = 2 ∧ t.reg VF = 0 ∧ t.reg 2 = 0xFF ∧ (run (.shr 15 0) (withRegs [(15, 2)])).reg VF = 0 := by decide
/-- V-ALU-21, V-ALU-22. -/
theorem test_shl :
    let t := run (.shl 0 0) (withRegs [(0, 0xFF)])
    t.reg 0 = 0xFE ∧ t.reg VF = 1 ∧ (run (.shl 15 0) (withRegs [(15, 0x81)])).reg VF = 1 := by decide
/-- V-ALU-30: the byte is free, its masked bits are not; the draw is counted. -/
theorem test_rnd (b : Byte) : b &&& 0 = 0 ∧ (run (.rnd 0 0) State.reset).rngDraws = 1 ∧
    (run (.rnd 0 0) State.reset).reg 0 = Config.rngByte 0 &&& 0 := ⟨by simp, rfl, rfl⟩

/-! Index register and memory -/

/-- V-MEM-01, E2. -/
theorem test_set_index : (run (.ldI 0x123) State.reset).i = 0x123 ∧ (run (.ldI 0x123) State.reset).pc = 0x202 := by decide
/-- V-MEM-02, V-MEM-03. -/
theorem test_add_index :
    (run (.addIVx 0) ((withRegs [(0, 1)]).setIndex 0xFFFF)).i = 0 ∧
    (run (.addIVx 0) ((withRegs [(0, 1)]).setIndex 0x0FFF)).i = 0x1000 := by decide
/-- V-MEM-04, V-MEM-05. -/
theorem test_font_address :
    let u := run (.ldFVx 0) ((withRegs [(0, 0x10)]).setIndex 0x123)
    (run (.ldFVx 0) (withRegs [(0, 0x0F)])).i = 0x4B ∧ u.faultReason = some .invalidFontDigit ∧ u.i = 0x123 ∧
      u.pc = 0x200 := by decide
/-- V-MEM-09, V-MEM-10. -/
theorem test_bcd :
    let t := run (.ldBVx 0) ((withRegs [(0, 123)]).setIndex 0xFFD)
    let u := run (.ldBVx 0) ((withRegs [(0, 123)]).setIndex 0xFFE)
    t.readByte 0xFFD = 1 ∧ t.readByte 0xFFE = 2 ∧ t.readByte 0xFFF = 3 ∧ t.paused = false ∧
      u.faultReason = some .memoryOutOfBounds ∧ u.mem = [] := by decide
/-- V-MEM-16: the font is overwritten. -/
theorem test_bcd_over_font : (run (.ldBVx 0) State.reset).readByte 0 = 0 ∧ State.reset.readByte 0 = 0xF0 := by
  decide +kernel
/-- V-MEM-11, V-MEM-13. -/
theorem test_dump :
    let t := run (.ldMemVx 15) ((withRegs [(15, 0xEE)]).setIndex 0xFF0)
    let u := run (.ldMemVx 1) ((withRegs [(0, 0xAB), (1, 0xCD)]).setIndex 0xFFF)
    t.readByte 0xFFF = 0xEE ∧ t.paused = false ∧ u.faultReason = some .memoryOutOfBounds ∧ u.mem = [] := by decide
/-- V-MEM-15. -/
theorem test_load :
    let t := run (.ldVxMem 2) (withBytes [1, 2, 3, 4] (withRegs [(3, 0x99)]))
    t.reg 0 = 1 ∧ t.reg 1 = 2 ∧ t.reg 2 = 3 ∧ t.reg 3 = 0x99 ∧ t.i = 0x300 := by decide

/-! Display -/

/-- V-DRW-01. -/
theorem test_cls :
    let t := run .cls (((withRegs [(15, 9)]).xorCell 3 4 true).xorCell 63 31 true)
    t.fb.cell 3 4 = false ∧ t.fb.cell 63 31 = false ∧ t.reg VF = 9 := by decide
/-- V-DRW-05: both axes wrap. -/
theorem test_drw_wraps :
    let t := run (.drw 10 11 2) (withBytes [0xC0, 0x81] (withRegs [(10, 62), (11, 31)]))
    t.fb.cell 62 31 = true ∧ t.fb.cell 63 31 = true ∧ t.fb.cell 62 0 = true ∧ t.fb.cell 5 0 = true ∧
      t.fb.cell 6 0 = false ∧ t.reg VF = 0 := by decide +kernel
/-- V-DRW-10 and V-DRW-11: x = F, live and snapshot. -/
theorem test_drw_reads_VF :
    let s := (withBytes [0xC0] State.reset).xorCell 0 0 true
    let t := run (.drw 15 0 1) s
    let u := run (.drw 15 0 1) { s with config := { s.config with drawRegRead := .snapshot } }
    t.fb.cell 0 0 = false ∧ t.fb.cell 2 0 = true ∧ t.reg VF = 1 ∧
      u.fb.cell 0 0 = false ∧ u.fb.cell 1 0 = true ∧ u.fb.cell 2 0 = false ∧ u.reg VF = 1 := by decide +kernel

/-! Keys and timers -/

/-- V-KT-01 to V-KT-06. -/
theorem test_key_skips :
    let s : State := { withRegs [(1, 5)] with keys := 0x0020 }
    let u : State := { withRegs [(1, 16)] with keys := 0xFFFF }
    (run (.skp 1) s).pc = 0x204 ∧ (run (.sknp 1) s).pc = 0x202 ∧ (run (.skp 1) u).pc = 0x202 ∧
      (run (.sknp 1) u).pc = 0x204 := by decide
/-- V-KT-07, V-KT-08. -/
theorem test_wait_for_key :
    let t := run (.ldVxK 3) { State.reset with pending := some 7 }
    (run (.ldVxK 3) State.reset).pc = 0x200 ∧ t.reg 3 = 7 ∧ t.pending = none ∧ t.pc = 0x202 := by decide
/-- V-KT-09, V-KT-10: key 0. -/
theorem test_wait_for_key_zero :
    let s : State := { State.reset with pending := some 0 }
    let u := run (.ldVxK 3) { s with config := { s.config with key0IsNone := true } }
    (run (.ldVxK 3) s).pc = 0x202 ∧ u.pc = 0x200 ∧ u.pending = none := by decide
/-- R213's, R214's and R215's examples. -/
theorem test_timers :
    (run (.ldVxDt 2) (State.reset.setDelay 0x3C)).reg 2 = 0x3C ∧ (run (.ldDtVx 0) (withRegs [(0, 3)])).dt = 3 ∧
    (run (.ldStVx 0) (withRegs [(0, 2)])).st = 2 ∧ (run (.ldStVx 0) (withRegs [(0, 2)])).hasSound = true := by decide

/-! The cycle and the host's operations -/

/-- E1's first cycle, through the fetch. -/
theorem test_step_runs_placed_word :
    let t := answered (step (State.reset.withFetchWord 16 0x6005))
    t.reg 0 = 5 ∧ t.pc = 0x202 ∧ t.fc = 0 := by decide
/-- V-KT-17, V-KT-18: the tick comes first, and only when due. -/
theorem test_tick_before_step :
    let s := (State.reset.withFetchWord 16 0xF207).setDelay 0x3C
    (answered (step s)).reg 2 = 0x3B ∧ (answered (step { s with speed := 2 })).reg 2 = 0x3C := by decide
/-- V-FLT-01, V-FLT-02, V-FLT-05. -/
theorem test_fetch_bounds :
    (answered (step (State.reset.jumpTo 0xFFF))).faultReason = some .memoryOutOfBounds ∧
    (answered (step ((State.reset.jumpTo 0xFFE).withFetchWord 16 0x1200))).pc = 0x200 ∧
    (answered (step ((State.reset.jumpTo 0x201).withFetchWord 16 0x1234))).pc = 0x234 := by decide
/-- V-CF-08: zero-filled memory, then the font, then Idle. -/
theorem test_zero_memory_runs_into_the_font :
    let s1 := State.reset.cycled
    let s2 := s1.cycled
    s1.pc = 0 ∧ s2.faultReason = some .unknownInstruction ∧ s2.pc = 0 ∧ s2.cycleResult = .idle := by decide
/-- V-KT-11 and V-KT-12's keypad. -/
theorem test_press_release :
    let s := (State.reset.pressKey 3).releaseKey 3
    let c : State := { State.reset with config := { defaultConfig with releaseClearsAll := true } }
    s.keys = 0 ∧ s.pending = some 3 ∧ ((c.pressKey 3).releaseKey 5).pending = none ∧
      (State.reset.pressKey 20) = State.reset := by decide
/-- V-CYC-05 to V-CYC-07. -/
theorem test_speed :
    State.reset.speedUp.speed = 1 ∧ ({ State.reset with speed := 5 } : State).speedDown.speed = 5 ∧
    (({ State.reset with speed := 3 } : State).speedUp.loadROM []).speed = 2 := by decide
/-- E6, V-FLT-06: loadROM clears the latch and places the bytes. -/
theorem test_loadROM :
    let s := (State.reset.enterFatal .stackOverflow).loadROM [0x12, 0x00]
    s.paused = false ∧ s.faultReason = none ∧ s.readByte 0x200 = 0x12 ∧ s.readByte 0x4F = 0x80 ∧ s.readByte 0x50 = 0 := by
  decide

/-! Witnesses: states and operands that meet the hypotheses of each statement. -/

theorem reset_inv_witness : State.reset.Inv where
  memory := by decide
  sp := by decide
  speed := by decide
  latch := by decide
  frame := by decide
  pc := by decide
  stack := by decide

/-- A legal state of a running machine at Speed 2. -/
theorem speed_two_inv_witness : ({ State.reset with speed := 2 } : State).Inv where
  memory := by decide
  sp := by decide
  speed := by decide
  latch := by decide
  frame := by decide
  pc := by decide
  stack := by decide

theorem witness_DecodeOfEncodeIsTheInstruction : (Instr.sys 0x0EF).wellFormed = true := by decide
theorem witness_DecodedInstructionEncodesToItsWord : decode 0xD01F = .ok (.drw 0 1 15) := by decide
theorem witness_AtMostOneRowMatchesAWord : ∃ r : OpcodeRow, opcodeRows[1]? = some r ∧ (0x1FFF : Word) &&& r.mask = r.pattern :=
  ⟨_, rfl, by decide⟩
theorem witness_StepRunsTheDecodedInstruction :
    let s := (State.reset.jumpTo 0xFFE).withFetchWord 16 0x6005
    s.paused = false ∧ s.pc.toNat + 1 ≤ 4095 ∧ decode (BitVec.ofNat 16 (wordAt s s.pc.toNat)) = .ok (.ldVxNn 0 5) ∧
      exec (.ldVxNn 0 5) s.beginCycle = .next (run (.ldVxNn 0 5) s.beginCycle) := ⟨by decide, by decide, by decide, rfl⟩
theorem witness_UnfetchableOrIllegalWordIsFatal :
    let s := State.reset.jumpTo 0xFFF
    let u := (State.reset.jumpTo 0xFFE).withFetchWord 16 0x5121
    s.paused = false ∧ 4095 < s.pc.toNat + 1 ∧ u.paused = false ∧ u.pc.toNat + 1 ≤ 4095 ∧
      decode (BitVec.ofNat 16 (wordAt u u.pc.toNat)) = .error .unknownInstruction := by decide
theorem witness_TimersTickWhenFrameCounterIsDue :
    (State.reset.fc + 1) % State.reset.speed = 0 ∧ (({ State.reset with speed := 2 } : State).fc + 1) % 2 ≠ 0 := by decide
theorem witness_FrameCounterAfterACycle :
    let s := State.reset
    let u := State.reset.enterFatal .stackOverflow
    let c : State := { s with config := { s.config with tickReset := .onTick } }
    (step s = .next (answered (step s)) ∧ s.paused = false ∧ s.config.tickReset = .onStep) ∧
    (step u = .next (answered (step u)) ∧ u.paused = true) ∧
    (step c = .next (answered (step c)) ∧ c.config.tickReset = .onTick) :=
  ⟨⟨eq_next (by decide), by decide⟩, ⟨eq_next (by decide), by decide⟩, ⟨eq_next (by decide), by decide⟩⟩
theorem witness_RunningTicksOnlyAtSpeedOne :
    (∃ s : State, s.Inv ∧ s.config.tickReset = .onStep ∧ s.paused = false ∧ s.speed = 1) ∧
    (∃ s : State, s.Inv ∧ s.config.tickReset = .onStep ∧ s.paused = false ∧ 2 ≤ s.speed) :=
  ⟨⟨_, reset_inv_witness, by decide⟩, ⟨_, speed_two_inv_witness, by decide⟩⟩
theorem witness_PausedCyclesTickEverySpeedCycles : (State.reset.enterFatal .stackOverflow).paused = true := by decide
theorem witness_CycleReturnsWhatItDid :
    let s := State.reset.withFetchWord 16 0xF30A
    let u := State.reset.withFetchWord 16 0x00EE
    (step s = .next (answered (step s)) ∧ s.cycleResult = .stalled) ∧
    (step u = .next (answered (step u)) ∧ u.cycleResult = .fatal .stackUnderflow) ∧
    (State.reset.enterFatal .stackOverflow).cycleResult = .idle ∧ State.reset.cycleResult = .ok :=
  ⟨⟨eq_next (by decide), by decide⟩, ⟨eq_next (by decide), by decide⟩, by decide, by decide⟩
theorem witness_InstructionsRaiseExactlyTheirFatalError :
    faultOf State.reset .ret = some .stackUnderflow ∧ faultOf { State.reset with sp := 15 } (.call 0) = some .stackOverflow ∧
    faultOf (withRegs [(0, 16)]) (.ldFVx 0) = some .invalidFontDigit ∧ faultOf (withRegs [(0, 15)]) (.ldFVx 0) = none ∧
    faultOf (State.reset.setIndex 0xFFF) (.drw 0 0 2) = some .memoryOutOfBounds ∧
    faultOf (State.reset.setIndex 0xFFF) (.drw 0 0 1) = none ∧ faultOf State.reset (.jp 0) = none := by decide
theorem witness_FatalErrorsArePrecise :
    let s := State.reset.withFetchWord 16 0x00EE
    step s = .next (answered (step s)) ∧ (answered (step s)).paused = true ∧ s.paused = false :=
  ⟨eq_next (by decide), by decide, by decide⟩
theorem witness_PausedStopsExecutionUntilLoadROM :
    (State.reset.enterFatal .stackOverflow).paused = true ∧
      ∀ bytes, Transaction.loadROM bytes ∉ [Transaction.cycle, .pressKey 3, .speedDown] :=
  ⟨by decide, by simp⟩
theorem witness_EveryStepKeepsTheStateLegal : ∃ s t : State, s.Inv ∧ step s = .next t :=
  ⟨_, _, reset_inv_witness, eq_next (by decide)⟩
theorem witness_EveryHostSequenceKeepsTheStateLegal : ∃ s : State, s.Inv := ⟨_, reset_inv_witness⟩
theorem witness_OnlyTheNamedInstructionsWriteEachRegister :
    exec (.ldBVx 0) State.reset = .next (run (.ldBVx 0) State.reset) ∧ exec .cls State.reset = .next (run .cls State.reset) :=
  ⟨eq_next (by decide), rfl⟩
theorem witness_PcAfterEveryInstruction :
    (exec .ret State.reset = .next (run .ret State.reset) ∧ faultOf State.reset .ret ≠ none) ∧
    (exec (.jp 0) State.reset = .next (run (.jp 0) State.reset) ∧ faultOf State.reset (.jp 0) = none) :=
  ⟨⟨eq_next (by decide), by decide⟩, rfl, by decide⟩
theorem witness_OnlyKeyInstructionsDependOnTheKeypad :
    readsKeypad (.ldDtVx 3) = false ∧ exec (.ldDtVx 3) State.reset = .next (run (.ldDtVx 3) State.reset) := ⟨by decide, rfl⟩
theorem witness_NoInstructionReadsSoundTimerFrameCounterOrSpeed :
    exec (.ldStVx 3) State.reset = .next (run (.ldStVx 3) State.reset) := rfl
theorem witness_CanonicalMemoriesThatReadAlikeAreEqual : Memory.wf defaultFont [(0, 1), (0x200, 0x12), (4095, 7)] := by
  decide +kernel
theorem witness_StoredByteIsSeenByTheNextFetch : (State.reset.jumpTo 0xFFE).pc.toNat + 1 ≤ 4095 := by decide
theorem witness_CallPushesAndJumpsOrOverflows :
    ({ State.reset with sp := 15 } : State).sp = 15 ∧ (-1 ≤ State.reset.sp ∧ State.reset.sp < 15) ∧
    ({ State.reset with sp := 14 } : State).sp < 15 := by decide
theorem witness_RetPopsOrUnderflows :
    State.reset.sp = -1 ∧ ({ State.reset with sp := 0 } : State).sp = ((0 : Fin 16).val : Int) ∧
    ({ State.reset with sp := 15 } : State).sp = ((15 : Fin 16).val : Int) := by decide
theorem witness_RetAfterCallReturnsBehindTheCall :
    let s := State.reset.jumpTo 0xFFE
    let t := run (.call 0x300) s
    s.sp < 15 ∧ -1 ≤ s.sp ∧ s.pc.toNat ≤ 4094 ∧ exec (.call 0x300) s = .next t ∧ (t.setReg 1 2).stack = t.stack ∧
      (t.setReg 1 2).sp = t.sp := ⟨by decide, by decide, by decide, eq_next (by decide), rfl, rfl⟩
theorem witness_LoadFontAddressOrInvalidDigit :
    ((withRegs [(0, 15)]).reg 0).toNat ≤ 15 ∧ ((withRegs [(0, 16)]).reg 0).toNat > 15 := by decide
theorem witness_StoreBcdWritesThreeDigits :
    (State.reset.setIndex 0xFFD).i.toNat + 2 ≤ 4095 ∧ (State.reset.setIndex 0xFFE).i.toNat + 2 > 4095 := by decide
theorem witness_RegisterBlocksInAndOutOfRange :
    (State.reset.setIndex 0xFF0).i.toNat + (15 : Reg).val ≤ 4095 ∧ (State.reset.setIndex 0xFF1).i.toNat + (15 : Reg).val > 4095 ∧
    (State.reset.setIndex 0xFFF).i.toNat + (0 : Reg).val ≤ 4095 := by decide
theorem witness_LoadAfterDumpRestoresTheRegisters :
    let s := State.reset.setIndex 0xFF0
    let t := run (.ldMemVx 15) s
    s.i.toNat + (15 : Reg).val ≤ 4095 ∧ exec (.ldMemVx 15) s = .next t ∧ (t.setReg 1 9).i = t.i ∧
      t.sameBytes (t.setReg 1 9) := ⟨by decide, eq_next (by decide), rfl, fun _ => rfl⟩
theorem witness_DrawRanges :
    ((0 : Fin 16).val = 0 ∨ (State.reset.setIndex 0xFFFF).i.toNat + 0 - 1 ≤ 4095) ∧
    (State.reset.setIndex 0xFFF).i.toNat + (1 : Fin 16).val - 1 ≤ 4095 ∧
    (0 < (2 : Fin 16).val ∧ (State.reset.setIndex 0xFFF).i.toNat + (2 : Fin 16).val - 1 > 4095) := by decide
theorem witness_DrawXorsTheSpriteAndFlagsCollision :
    ((0 : Reg) ≠ VF ∧ (1 : Reg) ≠ VF) ∧
    ({ State.reset with config := { defaultConfig with drawRegRead := .snapshot } } : State).config.drawRegRead = .snapshot ∧
    State.reset.i.toNat + (5 : Fin 16).val - 1 ≤ 4095 := by decide
theorem witness_DrawingTwiceRestoresTheFramebuffer :
    let t := run (.drw 0 1 5) State.reset
    (0 : Reg) ≠ VF ∧ (1 : Reg) ≠ VF ∧ State.reset.i.toNat + (5 : Fin 16).val - 1 ≤ 4095 ∧
      exec (.drw 0 1 5) State.reset = .next t ∧ exec (.drw 0 1 5) t = .next (run (.drw 0 1 5) t) ∧
      ∀ px py, spriteOn State.reset State.reset.i.toNat (State.reset.reg 0).toNat (State.reset.reg 1).toNat 5 px py →
        State.reset.fb.cell px py = false :=
  ⟨by decide, by decide, by decide, eq_next (by decide), eq_next (by decide +kernel), fun px py _ => by
    simp [State.reset, State.powerOn, Framebuffer.blank, Framebuffer.cell]⟩
/-- R196's flag clause against R192 (notes/assumptions/18.md): all four cells of a row 0xF0 are 1, so the first draw clears them
and the second erases nothing; on cleared cells the second draw's VF is 1. -/
theorem test_second_draw_flag :
    let s := (((State.reset.xorCell 0 0 true).xorCell 1 0 true).xorCell 2 0 true).xorCell 3 0 true
    let t := run (.drw 0 1 1) s
    s.readByte 0 ≠ 0 ∧ t.reg VF = 1 ∧ (run (.drw 0 1 1) t).reg VF = 0 ∧
      (run (.drw 0 1 1) (run (.drw 0 1 1) State.reset)).reg VF = 1 := by decide +kernel
/-- Why no definition meets R196's flag clause there: the state its second draw starts from is, in every field, a cleared screen
on which nothing was drawn before (with VF = 1 and pc = 0x202), and a draw on a cleared screen leaves VF = 0 (R192; program P3 of
spec/95_test_vectors.md after its first draw). -/
theorem test_second_draw_state_is_a_cleared_screen :
    let s := (((State.reset.xorCell 0 0 true).xorCell 1 0 true).xorCell 2 0 true).xorCell 3 0 true
    run (.drw 0 1 1) s = ((State.reset.setFlag true).clearScreen).advance := by decide +kernel
theorem witness_WaitForKeyTakesThePressOrStalls :
    let s : State := { State.reset with pending := some 15 }
    let z : State := { State.reset with pending := some 0 }
    let d : State := { z with config := { defaultConfig with key0IsNone := true } }
    (s.pending = some 15 ∧ ¬(s.config.key0IsNone = true ∧ (15 : Key) = 0)) ∧
    (z.pending = some 0 ∧ ¬(z.config.key0IsNone = true ∧ (0 : Key) = 0)) ∧ State.reset.pending = none ∧
    (d.config.key0IsNone = true ∧ d.pending = some 0) := by decide
theorem witness_KeyIndices : 15 < 16 ∧ 16 ≤ 16 ∧ State.reset.config.releaseClearsAll = false ∧
    ({ defaultConfig with releaseClearsAll := true } : Config).releaseClearsAll = true := by decide
theorem witness_SpeedOperationsSaturateInOneToFive :
    (1 ≤ State.reset.speed ∧ State.reset.speed ≤ 5) ∧ ({ State.reset with speed := 5 } : State).speed ≤ 5 := by decide
theorem witness_LoadRomLengths :
    ([] : List Byte).length ≤ 3584 ∧ (List.replicate 3584 (0xAA : Byte)).length ≤ 3584 ∧
    3584 < (List.replicate 3585 (0xAA : Byte)).length := by
  simp only [List.length_replicate, List.length_nil]
  omega

end Sys2Proof.Tests
end

section
/-!
PROOFS. The rows of spec/30_encoding.md R85 are disjoint: any two of them differ in a bit that both masks keep (R84). Hence the
row that `decode` finds is the only one, wherever it stands in the table.
-/

namespace Sys2Proof

theorem OpcodeRow.selects_iff {r : OpcodeRow} {w : Word} : r.selects w = true ↔ w &&& r.mask = r.pattern := beq_iff_eq

/-- The row at index k of the opcode map selects the word. -/
def SelectedBy (w : Word) (k : Nat) (r : OpcodeRow) : Prop := opcodeRows[k]? = some r ∧ r.selects w = true

/-- Two rows are apart when their patterns differ in a bit that both masks keep. -/
abbrev OpcodeRow.apart (r q : OpcodeRow) : Prop := r.pattern &&& q.mask ≠ q.pattern &&& r.mask

theorem OpcodeRow.not_apart_of_both_select {w : Word} {r q : OpcodeRow} (hr : r.selects w = true)
    (hq : q.selects w = true) : ¬ r.apart q := by
  intro hne
  apply hne
  calc r.pattern &&& q.mask = w &&& r.mask &&& q.mask := by rw [selects_iff.mp hr]
    _ = w &&& q.mask &&& r.mask := by rw [BitVec.and_assoc, BitVec.and_comm r.mask, ← BitVec.and_assoc]
    _ = q.pattern &&& r.mask := by rw [selects_iff.mp hq]

theorem opcodeRows_pairwise_apart : opcodeRows.Pairwise OpcodeRow.apart := by decide

/-- No row before one that selects a word selects that word too. -/
theorem SelectedBy.not_lt {w : Word} {j k : Nat} {r q : OpcodeRow} (hr : SelectedBy w j r) (hq : SelectedBy w k q) :
    ¬ j < k := by
  intro hjk
  obtain ⟨hj, rfl⟩ := List.getElem?_eq_some_iff.mp hr.1
  obtain ⟨hk, rfl⟩ := List.getElem?_eq_some_iff.mp hq.1
  exact OpcodeRow.not_apart_of_both_select hr.2 hq.2 (List.pairwise_iff_getElem.mp opcodeRows_pairwise_apart j k hj hk hjk)

/-- R84: at most one of rows 3 to 35 selects a word. -/
theorem SelectedBy.index_unique {w : Word} {j k : Nat} {r q : OpcodeRow} (hr : SelectedBy w j r) (hq : SelectedBy w k q) :
    j = k :=
  Nat.le_antisymm (Nat.le_of_not_lt (hq.not_lt hr)) (Nat.le_of_not_lt (hr.not_lt hq))

theorem selectedBy_of_find? {w : Word} {q : OpcodeRow} (h : opcodeRows.find? (fun r => r.selects w) = some q) :
    ∃ k, SelectedBy w k q := by
  obtain ⟨k, hk⟩ := List.mem_iff_getElem?.mp (List.mem_of_find?_eq_some h)
  exact ⟨k, hk, List.find?_some (p := fun r : OpcodeRow => r.selects w) h⟩

/-- The search of R89 finds the row that selects the word, wherever in the table it stands. -/
theorem SelectedBy.find?_eq {w : Word} {j : Nat} {r : OpcodeRow} (hr : SelectedBy w j r) :
    opcodeRows.find? (fun r => r.selects w) = some r := by
  cases hf : opcodeRows.find? (fun r => r.selects w) with
  | none => exact absurd hr.2 (List.find?_eq_none.mp hf r (List.mem_of_getElem? hr.1))
  | some q =>
    obtain ⟨k, hq⟩ := selectedBy_of_find? hf
    rw [← hr.1, hr.index_unique hq, hq.1]

/-- R89: a word other than CLS's and RET's decodes by the row that selects it. -/
theorem SelectedBy.decode_eq {w : Word} {j : Nat} {r : OpcodeRow} (hr : SelectedBy w j r) (hcls : w ≠ 0x00E0)
    (hret : w ≠ 0x00EE) : decode w = .ok (r.build w) := by
  rw [decode, if_neg hcls, if_neg hret, hr.find?_eq]

/-- Settles O4: two rows that select one word are not apart, so they are the same row, and `decode` finds it. -/
theorem atMostOneRowMatchesAWord : Obligations.AtMostOneRowMatchesAWord := by
  refine ⟨rfl, rfl, fun w j k r q hj hk hr hq => ?_⟩
  have row : SelectedBy w j r := ⟨hj, OpcodeRow.selects_iff.mpr hr⟩
  exact ⟨row.index_unique ⟨hk, OpcodeRow.selects_iff.mpr hq⟩, row.decode_eq⟩

end Sys2Proof
end

section
/-!
PROOFS. The layouts the statements write out are the encoder's formats; an instruction with a nonzero leading digit decodes from
its own word; a word that some mask and pattern tell apart from every row is refused (spec/30_encoding.md R84, R87, R89).
-/

namespace Sys2Proof

open Claims

theorem ofNat_val_eq_ofFin (r : Reg) : BitVec.ofNat 4 r.val = BitVec.ofFin r :=
  BitVec.eq_of_toNat_eq (Nat.mod_eq_of_lt r.isLt)

theorem wordA_eq_formatA (op : BitVec 4) (nnn : Addr) : wordA op nnn = formatA op nnn := rfl

theorem wordXB_eq_formatXB (op : BitVec 4) (x : Reg) (nn : Byte) : wordXB op x nn = formatXB op x nn := by
  rw [wordXB, formatXB, ofNat_val_eq_ofFin]

theorem wordXY_eq_formatXY (op : BitVec 4) (x y : Reg) (last : BitVec 4) : wordXY op x y last = formatXY op x y last := by
  rw [wordXY, formatXY, ofNat_val_eq_ofFin, ofNat_val_eq_ofFin]

/-- The words of CLS and RET have leading digit 0 (R86). -/
theorem ne_cls_and_ne_ret_of_leadingDigit {w : Word} (h : w &&& 0xF000 ≠ 0) : w ≠ 0x00E0 ∧ w ≠ 0x00EE := by
  constructor <;> rintro rfl <;> exact h rfl

theorem decode_encode_of_inOwnRow {i : Instr} (row : Laws.InOwnRow.Statement i) (hd : encode i &&& 0xF000 ≠ 0) :
    decode (encode i) = .ok i := by
  obtain ⟨hcls, hret⟩ := ne_cls_and_ne_ret_of_leadingDigit hd
  obtain ⟨-, h⟩ | ⟨-, h⟩ | ⟨k, r, hk, hs, hb⟩ := row
  · exact absurd h hcls
  · exact absurd h hret
  · rw [SelectedBy.decode_eq ⟨hk, hs⟩ hcls hret, hb]

/-- A word with a masked pattern that is apart from every row selects none of them, and is refused (R87). -/
theorem decode_eq_error_of_apart {w mask pattern : Word} (hw : w &&& mask = pattern)
    (hapart : ∀ r ∈ opcodeRows, r.apart ⟨pattern, mask, fun _ => .cls⟩) (hd : w &&& 0xF000 ≠ 0) :
    decode w = .error .unknownInstruction := by
  obtain ⟨hcls, hret⟩ := ne_cls_and_ne_ret_of_leadingDigit hd
  have hnone : opcodeRows.find? (fun r => r.selects w) = none :=
    List.find?_eq_none.mpr fun r hr hs =>
      OpcodeRow.not_apart_of_both_select hs (OpcodeRow.selects_iff.mpr hw) (hapart r hr)
  rw [decode, if_neg hcls, if_neg hret, hnone]

/-- 5xyN and 9xyN with N not 0 stand in no row of R85. -/
theorem opcodeRows_apart_from_5xyN_9xyN : ∀ last : BitVec 4, last ≠ 0 → ∀ r ∈ opcodeRows,
    r.apart ⟨formatXY 0x5 0 0 last, 0xF00F, fun _ => .cls⟩ ∧ r.apart ⟨formatXY 0x9 0 0 last, 0xF00F, fun _ => .cls⟩ := by
  decide

end Sys2Proof
end

section
/-!
PROOFS. Control flow, spec/41_control_flow.md: what is said once of a meaning that answers a jump, and of one that answers a
skip; and the jumps and compare-and-skip instructions from them.
-/

namespace Sys2Proof.Machine

open Claims

/-- The sum of 12 and 8 bits does not reach 2^16, so the target of JP V0 is the exact sum (R125). -/
theorem offsetTarget_toNat (s : State) (nnn : Addr) : (s.offsetTarget nnn).toNat = nnn.toNat + (s.reg 0).toNat := by
  have hn := nnn.isLt
  have hv := (s.reg 0).isLt
  rw [State.offsetTarget, BitVec.toNat_add, addrOperand_toNat, BitVec.toNat_setWidth_of_le (by decide)]
  omega

/-- A meaning that answers a jump changes pc alone. -/
theorem jump_sets_only_pc {i : Instr} {s : State} {w : Word} {n : Nat} (h : exec i s = .next (s.jumpTo w))
    (hw : w.toNat = n) :
    ∃ t, exec i s = .next t ∧ t.pc.toNat = n ∧ t = { s with pc := t.pc } ∧ s.sameBytes t :=
  ⟨s.jumpTo w, h, hw, rfl, jumpTo_readByte s w⟩

/-- A meaning that answers a skip moves pc by 4 or 2, modulo 2^16, and changes nothing else (R106, R110). -/
theorem skip_moves_only_pc {i : Instr} {s : State} {holds : Bool} {p : Prop} [Decidable p]
    (h : exec i s = .next (s.skipIf holds)) (hp : holds = true ↔ p) :
    ∃ t, exec i s = .next t ∧ t.pc.toNat = (s.pc.toNat + if p then 4 else 2) % 2 ^ 16 ∧ t = { s with pc := t.pc } ∧
      s.sameBytes t := by
  refine jump_sets_only_pc h ?_
  rw [BitVec.toNat_add, if_congr hp rfl rfl]
  by_cases hc : p <;> simp [hc]

theorem beq_iff_toNat_eq {a b : Byte} : (a == b) = true ↔ a.toNat = b.toNat := beq_iff_eq.trans BitVec.toNat_inj.symm

theorem bne_iff_toNat_ne {a b : Byte} : (a != b) = true ↔ a.toNat ≠ b.toNat := bne_iff_ne.trans BitVec.toNat_inj.symm.not

/-- Settles O26: both answer a jump, JP V0's to the exact sum. -/
theorem jumpsSetOnlyPc : Obligations.JumpsSetOnlyPc := by
  intro s nnn
  rw [wordA_eq_formatA, wordA_eq_formatA]
  exact ⟨decode_encode_of_inOwnRow (Laws.InOwnRow.jp nnn) ((formatA_and_F000 ..).trans_ne (by decide)),
    decode_encode_of_inOwnRow (Laws.InOwnRow.jpV0 nnn) ((formatA_and_F000 ..).trans_ne (by decide)),
    jump_sets_only_pc rfl (addrOperand_toNat nnn), jump_sets_only_pc rfl (offsetTarget_toNat s nnn)⟩

/-- The encodings of R126 to R129. -/
theorem decode_compareSkips (x y : Reg) (nn : Byte) :
    decode (wordXB 0x3 x nn) = .ok (.seVxNn x nn) ∧ decode (wordXB 0x4 x nn) = .ok (.sneVxNn x nn) ∧
      decode (wordXY 0x5 x y 0x0) = .ok (.seVxVy x y) ∧ decode (wordXY 0x9 x y 0x0) = .ok (.sneVxVy x y) := by
  simp only [wordXB_eq_formatXB, wordXY_eq_formatXY]
  exact ⟨decode_encode_of_inOwnRow (Laws.InOwnRow.seVxNn x nn) ((formatXB_and_F000 ..).trans_ne (by decide)),
    decode_encode_of_inOwnRow (Laws.InOwnRow.sneVxNn x nn) ((formatXB_and_F000 ..).trans_ne (by decide)),
    decode_encode_of_inOwnRow (Laws.InOwnRow.seVxVy x y) ((formatXY_and_F000 ..).trans_ne (by decide)),
    decode_encode_of_inOwnRow (Laws.InOwnRow.sneVxVy x y) ((formatXY_and_F000 ..).trans_ne (by decide))⟩

/-- R128, R129 with R87: the last digit of the two register compares is 0. -/
theorem decode_5xyN_9xyN_refused (x y : Reg) {last : BitVec 4} (h : last ≠ 0) :
    decode (wordXY 0x5 x y last) = .error .unknownInstruction ∧
      decode (wordXY 0x9 x y last) = .error .unknownInstruction := by
  have hapart := opcodeRows_apart_from_5xyN_9xyN last h
  rw [wordXY_eq_formatXY, wordXY_eq_formatXY]
  exact ⟨decode_eq_error_of_apart (formatXY_and_F00F ..) (fun r hr => (hapart r hr).1)
      ((formatXY_and_F000 ..).trans_ne (by decide)),
    decode_eq_error_of_apart (formatXY_and_F00F ..) (fun r hr => (hapart r hr).2)
      ((formatXY_and_F000 ..).trans_ne (by decide))⟩

/-- Settles O31: the four words stand in their own rows, and each meaning answers a skip on its condition. -/
theorem compareSkipsMovePcByFourOrTwo : Obligations.CompareSkipsMovePcByFourOrTwo := by
  intro s x y nn
  obtain ⟨hse, hsne, hseV, hsneV⟩ := decode_compareSkips x y nn
  exact ⟨⟨hse, hsne, hseV, hsneV, fun _ h => decode_5xyN_9xyN_refused x y h⟩,
    skip_moves_only_pc rfl beq_iff_toNat_eq, skip_moves_only_pc rfl bne_iff_toNat_ne,
    skip_moves_only_pc rfl beq_iff_toNat_eq, skip_moves_only_pc rfl bne_iff_toNat_ne⟩

end Sys2Proof.Machine
end

section
/-!
PROOFS. Loads and bitwise operations, spec/42_alu.md and R170: what is said once of a meaning that writes one register and moves
on, and of one that writes a bitwise combination; and the immediate loads, OR, AND and XOR from them.
-/

namespace Sys2Proof.Machine

open Claims

/-- pc moves on by 2 modulo 2^16 (R106, R110). -/
theorem movedOn_advance (s : State) : s.movedOn s.advance := BitVec.toNat_add s.pc 2

/-- Writing Vx and moving on keeps everything but Vx and pc. -/
theorem keepsAllBut_setReg_advance (s : State) (x : Reg) (b : Byte) : s.keepsAllBut (s.setReg x b).advance [x] :=
  ⟨fun _ hr => reg_setReg_other s b (List.ne_of_not_mem_cons hr), setReg_readByte s x b, rfl⟩

/-- A meaning that answers a write of Vx and moves on. -/
theorem load_writes_only_reg {i : Instr} {s : State} {x : Reg} {b : Byte}
    (h : exec i s = .next (s.setReg x b).advance) :
    ∃ t, exec i s = .next t ∧ t.reg x = b ∧ s.movedOn t ∧ s.keepsAllBut t [x] :=
  ⟨_, h, reg_setReg_same s x b, movedOn_advance (s.setReg x b), keepsAllBut_setReg_advance s x b⟩

/-- A meaning that answers a write of I and moves on. -/
theorem load_writes_only_index {i : Instr} {s : State} {w : Word} {n : Nat}
    (h : exec i s = .next (s.setIndex w).advance) (hw : w.toNat = n) :
    ∃ t, exec i s = .next t ∧ t.i.toNat = n ∧ s.movedOn t ∧ t = { s with i := t.i, pc := t.pc } ∧ s.sameBytes t :=
  ⟨_, h, hw, movedOn_advance (s.setIndex w), rfl, setIndex_readByte s w⟩

/-- A meaning that loads Vx with a byte whose bits are `op` of the old bits of Vx and Vy. -/
theorem bitwise_combines_bits {i : Instr} {s : State} {x y : Reg} {b : Byte} (op : Bool → Bool → Bool)
    (h : exec i s = .next (s.setReg x b).advance)
    (hb : ∀ k, b.toNat.testBit k = op ((s.reg x).toNat.testBit k) ((s.reg y).toNat.testBit k)) :
    ∃ t, exec i s = .next t ∧
      (∀ k, (t.reg x).toNat.testBit k = op ((s.reg x).toNat.testBit k) ((s.reg y).toNat.testBit k)) ∧ s.movedOn t ∧
      s.keepsAllBut t [x] := by
  obtain ⟨t, ht, hreg, hpc, hframe⟩ := load_writes_only_reg h
  exact ⟨t, ht, hreg ▸ hb, hpc, hframe⟩

/-- Settles O33: both words stand in their own rows, and each meaning writes its one register and moves on. -/
theorem immediateLoadsWriteTheirRegister : Obligations.ImmediateLoadsWriteTheirRegister := by
  constructor
  · intro s x nn
    rw [wordXB_eq_formatXB]
    exact ⟨decode_encode_of_inOwnRow (Laws.InOwnRow.ldVxNn x nn) ((formatXB_and_F000 ..).trans_ne (by decide)),
      load_writes_only_reg rfl⟩
  · intro s nnn
    rw [wordA_eq_formatA]
    exact ⟨decode_encode_of_inOwnRow (Laws.InOwnRow.ldI nnn) ((formatA_and_F000 ..).trans_ne (by decide)),
      load_writes_only_index rfl (addrOperand_toNat nnn)⟩

/-- The encodings of R144 to R146. -/
theorem decode_bitwise (x y : Reg) :
    decode (wordXY 0x8 x y 0x1) = .ok (.or x y) ∧ decode (wordXY 0x8 x y 0x2) = .ok (.and x y) ∧
      decode (wordXY 0x8 x y 0x3) = .ok (.xor x y) := by
  simp only [wordXY_eq_formatXY]
  exact ⟨decode_encode_of_inOwnRow (Laws.InOwnRow.or x y) ((formatXY_and_F000 ..).trans_ne (by decide)),
    decode_encode_of_inOwnRow (Laws.InOwnRow.and x y) ((formatXY_and_F000 ..).trans_ne (by decide)),
    decode_encode_of_inOwnRow (Laws.InOwnRow.xor x y) ((formatXY_and_F000 ..).trans_ne (by decide))⟩

/-- Settles O35: the three words stand in their own rows, and each meaning writes its bitwise combination to Vx alone. -/
theorem bitwiseOpsCombineEachBit : Obligations.BitwiseOpsCombineEachBit := fun s x y =>
  ⟨decode_bitwise x y,
    bitwise_combines_bits (· || ·) rfl (Nat.testBit_or (s.reg x).toNat (s.reg y).toNat),
    bitwise_combines_bits (· && ·) rfl (Nat.testBit_and (s.reg x).toNat (s.reg y).toNat),
    bitwise_combines_bits (· ^^ ·) rfl (Nat.testBit_xor (s.reg x).toNat (s.reg y).toNat)⟩

end Sys2Proof.Machine
end

section
/-!
PROOFS. Font addresses, spec/43_index_memory.md R172: what is said once of a meaning that raises a fatal error; the two answers of
LD F, Vx by the value of Vx; and its whole rule from them.
-/

namespace Sys2Proof.Machine

open Claims

/-- A meaning that raises a fatal error changes the latch alone (R232). -/
theorem raise_changes_only_latch {i : Instr} {s : State} {r : FatalReason} (h : exec i s = raiseFatal r s) :
    ∃ t, exec i s = .next t ∧ s.fatalFrom t r :=
  ⟨s.enterFatal r, h, rfl⟩

/-- Five times any byte is below 2^16, so the glyph address is the exact product (R172). -/
theorem glyphAddress_toNat (d : Byte) : (glyphAddress d).toNat = d.toNat * 5 := by
  have hd := d.isLt
  rw [glyphAddress, BitVec.toNat_ofNat, Nat.mod_eq_of_lt (by omega)]

theorem exec_ldFVx_of_le {s : State} {x : Reg} (h : (s.reg x).toNat ≤ 15) :
    exec (.ldFVx x) s = .next (s.setIndex (glyphAddress (s.reg x))).advance :=
  if_neg (Nat.not_lt.mpr h)

theorem exec_ldFVx_of_gt {s : State} {x : Reg} (h : (s.reg x).toNat > 15) :
    exec (.ldFVx x) s = raiseFatal .invalidFontDigit s :=
  if_pos h

/-- The encoding of R172. -/
theorem decode_ldFVx (x : Reg) : decode (wordXB 0xF x 0x29) = .ok (.ldFVx x) := by
  rw [wordXB_eq_formatXB]
  exact decode_encode_of_inOwnRow (Laws.InOwnRow.ldFVx x) ((formatXB_and_F000 ..).trans_ne (by decide))

/-- Settles O40: up to 15 the meaning writes the glyph's address to I and moves on; above 15 it raises the error. -/
theorem loadFontAddressOrInvalidDigit : Obligations.LoadFontAddressOrInvalidDigit := fun s x =>
  ⟨decode_ldFVx x,
    fun hle => load_writes_only_index (exec_ldFVx_of_le hle) (glyphAddress_toNat (s.reg x)),
    fun hgt => raise_changes_only_latch (exec_ldFVx_of_gt hgt)⟩

end Sys2Proof.Machine
end

section
/-!
PROOFS. The display's own operations, spec/44_display.md: drawPixel cell by cell and its collision (R190), the source's
Scenario C (R197), and CLS (R193).
-/

namespace Sys2Proof.Machine

/-- R190's write: the value is XORed into the one cell and every other keeps its bit. -/
theorem Framebuffer.cell_xorCell_eq_ite (fb : Framebuffer) (x px : Fin 64) (y py : Fin 32) (value : Bool) :
    (fb.xorCell x y value).cell px py = if px = x ∧ py = y then (fb.cell px py ^^ value) else fb.cell px py := by
  rw [Framebuffer.cell_xorCell]
  by_cases h : px = x ∧ py = y
  · rw [if_pos h, decide_eq_true h, Bool.true_and]
  · rw [if_neg h, decide_eq_false h, Bool.false_and, Bool.xor_false]

@[simp] theorem Framebuffer.cell_xorCell_same (fb : Framebuffer) (x : Fin 64) (y : Fin 32) (value : Bool) :
    (fb.xorCell x y value).cell x y = (fb.cell x y ^^ value) := by
  rw [Framebuffer.cell_xorCell_eq_ite, if_pos ⟨rfl, rfl⟩]

/-- R190's answer. -/
theorem Framebuffer.collides_iff (fb : Framebuffer) (x : Fin 64) (y : Fin 32) (value : Bool) :
    fb.collides x y value = true ↔ fb.cell x y = true ∧ value = true :=
  Bool.and_eq_true_iff

@[simp] theorem Framebuffer.collides_true (fb : Framebuffer) (x : Fin 64) (y : Fin 32) :
    fb.collides x y true = fb.cell x y :=
  Bool.and_true _

/-- Settles O45: the laws of `xorCell` and `collides`; Scenario C follows the bit at (0, 0) from 0 to 1 and back. -/
theorem drawPixelXorsOneCell : Obligations.DrawPixelXorsOneCell := by
  refine ⟨fun s x px y py value => ⟨s.fb.cell_xorCell_eq_ite x px y py value, s.fb.collides_iff x y value, rfl⟩,
    fun s => ?_⟩
  have hclear : s.clearScreen.fb.cell 0 0 = false := Framebuffer.cell_blank 0 0
  have hdrawn : (s.clearScreen.xorCell 0 0 true).fb.cell 0 0 = true := by
    rw [xorCell_fb, Framebuffer.cell_xorCell_same, hclear, Bool.false_xor]
  have hagain : ((s.clearScreen.xorCell 0 0 true).xorCell 0 0 true).fb.cell 0 0 = false := by
    rw [xorCell_fb, Framebuffer.cell_xorCell_same, hdrawn, Bool.xor_self]
  exact ⟨(Framebuffer.collides_true ..).trans hclear, hdrawn, (Framebuffer.collides_true ..).trans hdrawn, hagain⟩

theorem decode_cls : decode 0x00E0 = .ok .cls := if_pos rfl

theorem exec_cls (s : State) : exec .cls s = .next s.clearScreen.advance := rfl

/-- Settles O46: CLS answers the cleared screen and moves on. -/
theorem clearScreenZeroesEveryCell : Obligations.ClearScreenZeroesEveryCell :=
  ⟨decode_cls, fun s => ⟨s.clearScreen.advance, exec_cls s, Framebuffer.cell_blank, movedOn_advance s.clearScreen, rfl,
    clearScreen_readByte s⟩⟩

end Sys2Proof.Machine
end

section
/-!
PROOFS. Decode and encode are inverse to each other, spec/30_encoding.md R85 to R89. One way, every instruction stands in its
own row, and no row but SYS's selects the two words CLS and RET have to themselves. The other way, every row spells the word
it selects back from the word's fields.
-/

namespace Sys2Proof

/-- Every instruction's word is one its own row selects and rebuilds it from. -/
theorem statement_inOwnRow : ∀ i : Instr, Laws.InOwnRow.Statement i
  | .cls => Laws.InOwnRow.cls
  | .ret => Laws.InOwnRow.ret
  | .sys nnn => Laws.InOwnRow.sys nnn
  | .jp nnn => Laws.InOwnRow.jp nnn
  | .call nnn => Laws.InOwnRow.call nnn
  | .seVxNn x nn => Laws.InOwnRow.seVxNn x nn
  | .sneVxNn x nn => Laws.InOwnRow.sneVxNn x nn
  | .seVxVy x y => Laws.InOwnRow.seVxVy x y
  | .ldVxNn x nn => Laws.InOwnRow.ldVxNn x nn
  | .addVxNn x nn => Laws.InOwnRow.addVxNn x nn
  | .ldVxVy x y => Laws.InOwnRow.ldVxVy x y
  | .or x y => Laws.InOwnRow.or x y
  | .and x y => Laws.InOwnRow.and x y
  | .xor x y => Laws.InOwnRow.xor x y
  | .addVxVy x y => Laws.InOwnRow.addVxVy x y
  | .sub x y => Laws.InOwnRow.sub x y
  | .shr x y => Laws.InOwnRow.shr x y
  | .subn x y => Laws.InOwnRow.subn x y
  | .shl x y => Laws.InOwnRow.shl x y
  | .sneVxVy x y => Laws.InOwnRow.sneVxVy x y
  | .ldI nnn => Laws.InOwnRow.ldI nnn
  | .jpV0 nnn => Laws.InOwnRow.jpV0 nnn
  | .rnd x nn => Laws.InOwnRow.rnd x nn
  | .drw x y n => Laws.InOwnRow.drw x y n
  | .skp x => Laws.InOwnRow.skp x
  | .sknp x => Laws.InOwnRow.sknp x
  | .ldVxDt x => Laws.InOwnRow.ldVxDt x
  | .ldVxK x => Laws.InOwnRow.ldVxK x
  | .ldDtVx x => Laws.InOwnRow.ldDtVx x
  | .ldStVx x => Laws.InOwnRow.ldStVx x
  | .addIVx x => Laws.InOwnRow.addIVx x
  | .ldFVx x => Laws.InOwnRow.ldFVx x
  | .ldBVx x => Laws.InOwnRow.ldBVx x
  | .ldMemVx x => Laws.InOwnRow.ldMemVx x
  | .ldVxMem x => Laws.InOwnRow.ldVxMem x

/-- SYS's row is the only one that selects CLS's or RET's word, so an instruction some row builds from such a word is the SYS
that is not well formed (R86). -/
theorem not_wellFormed_of_selectedBy {i : Instr} {k : Nat} {r : OpcodeRow} (row : SelectedBy (encode i) k r)
    (hb : r.build (encode i) = i) (hw : encode i = 0x00E0 ∨ encode i = 0x00EE) : i.wellFormed = false := by
  have hsys : SelectedBy (encode i) 0 ⟨0x0000, 0xF000, fun w => .sys (fieldA w)⟩ :=
    ⟨rfl, by obtain h | h := hw <;> rw [h] <;> rfl⟩
  obtain rfl := row.index_unique hsys
  obtain rfl := Option.some.inj (row.1.symm.trans hsys.1)
  obtain h | h := hw <;> rw [← hb, h] <;> rfl

/-- Settles O2: the instruction's own row selects its word, which is neither of the two words of rows 1 and 2. -/
theorem decodeOfEncodeIsTheInstruction : Obligations.DecodeOfEncodeIsTheInstruction := by
  intro i hwf
  obtain ⟨rfl, -⟩ | ⟨rfl, -⟩ | ⟨k, r, hk, hs, hb⟩ := statement_inOwnRow i
  · rfl
  · rfl
  · have hne (hw : encode i = 0x00E0 ∨ encode i = 0x00EE) : False :=
      Bool.false_ne_true ((not_wellFormed_of_selectedBy ⟨hk, hs⟩ hb hw).symm.trans hwf)
    rw [SelectedBy.decode_eq ⟨hk, hs⟩ (fun h => hne (.inl h)) (fun h => hne (.inr h)), hb]

section Respelling
variable {w : Word} {op : BitVec 4}

/-- A word of leading digit `op` is spelled by that digit and its field nnn. -/
theorem formatA_fieldA (h : w &&& 0xF000 = formatA op 0) : formatA op (fieldA w) = w := by
  apply BitVec.eq_of_getLsbD_eq; intro k hk
  have hbit := congrArg (BitVec.getLsbD · k) h
  simp only [getLsbD_formatA, BitVec.getLsbD_and] at hbit
  simp only [getLsbD_formatA, fieldA, BitVec.getLsbD_extractLsb']
  interval_cases k <;> simp_all

/-- A register field's number, bit by bit. -/
theorem testBit_fieldX (k : Nat) : (fieldX w).val.testBit k = (decide (k < 4) && w.getLsbD (8 + k)) :=
  BitVec.getLsbD_extractLsb' 8 4 w k

theorem testBit_fieldY (k : Nat) : (fieldY w).val.testBit k = (decide (k < 4) && w.getLsbD (4 + k)) :=
  BitVec.getLsbD_extractLsb' 4 4 w k

/-- A word of leading digit `op` is spelled by that digit and its fields x and nn. -/
theorem formatXB_fields (h : w &&& 0xF000 = formatA op 0) : formatXB op (fieldX w) (fieldB w) = w := by
  apply BitVec.eq_of_getLsbD_eq; intro k hk
  have hbit := congrArg (BitVec.getLsbD · k) h
  simp only [getLsbD_formatA, BitVec.getLsbD_and] at hbit
  simp only [getLsbD_formatXB, testBit_fieldX, fieldB, BitVec.getLsbD_extractLsb']
  interval_cases k <;> simp_all

/-- A word of leading digit `op` and low byte `nn` is spelled by them and its field x. -/
theorem formatXB_fieldX {nn : Byte} (h : w &&& 0xF0FF = formatXB op 0 nn) : formatXB op (fieldX w) nn = w := by
  apply BitVec.eq_of_getLsbD_eq; intro k hk
  have hbit := congrArg (BitVec.getLsbD · k) h
  simp only [getLsbD_formatXB, BitVec.getLsbD_and] at hbit
  simp only [getLsbD_formatXB, testBit_fieldX]
  interval_cases k <;> simp_all

/-- A word of leading digit `op` and last digit `last` is spelled by them and its fields x and y. -/
theorem formatXY_fields {last : BitVec 4} (h : w &&& 0xF00F = formatXY op 0 0 last) :
    formatXY op (fieldX w) (fieldY w) last = w := by
  apply BitVec.eq_of_getLsbD_eq; intro k hk
  have hbit := congrArg (BitVec.getLsbD · k) h
  simp only [getLsbD_formatXY, BitVec.getLsbD_and] at hbit
  simp only [getLsbD_formatXY, testBit_fieldX, testBit_fieldY]
  interval_cases k <;> simp_all

/-- A word of leading digit `op` is spelled by that digit and its fields x, y and n. -/
theorem formatXY_fieldN (h : w &&& 0xF000 = formatA op 0) :
    formatXY op (fieldX w) (fieldY w) (BitVec.ofFin (fieldN w)) = w := by
  apply BitVec.eq_of_getLsbD_eq; intro k hk
  have hbit := congrArg (BitVec.getLsbD · k) h
  simp only [getLsbD_formatA, BitVec.getLsbD_and] at hbit
  simp only [getLsbD_formatXY, testBit_fieldX, testBit_fieldY, fieldN, BitVec.ofFin_toFin, BitVec.getLsbD_extractLsb']
  interval_cases k <;> simp_all

end Respelling

/-- Every word a row selects is the word of the instruction the row builds from it. -/
def OpcodeRow.Respells (r : OpcodeRow) : Prop := ∀ w : Word, w &&& r.mask = r.pattern → encode (r.build w) = w

theorem nibbleRows_respell : ∀ r ∈ nibbleRows, r.Respells := by
  simp only [nibbleRows, List.forall_mem_cons]
  exact ⟨fun _ h => formatA_fieldA h, fun _ h => formatA_fieldA h, fun _ h => formatA_fieldA h, fun _ h => formatXB_fields h,
    fun _ h => formatXB_fields h, fun _ h => formatXY_fields h, fun _ h => formatXB_fields h, fun _ h => formatXB_fields h,
    fun _ h => formatXY_fields h, fun _ h => formatA_fieldA h, fun _ h => formatA_fieldA h, fun _ h => formatXB_fields h,
    fun _ h => formatXY_fieldN h, List.forall_mem_nil _⟩

theorem aluRows_respell : ∀ r ∈ aluRows, r.Respells := by
  simp only [aluRows, List.forall_mem_cons]
  exact ⟨fun _ h => formatXY_fields h, fun _ h => formatXY_fields h, fun _ h => formatXY_fields h, fun _ h => formatXY_fields h,
    fun _ h => formatXY_fields h, fun _ h => formatXY_fields h, fun _ h => formatXY_fields h, fun _ h => formatXY_fields h,
    fun _ h => formatXY_fields h, List.forall_mem_nil _⟩

theorem byteRows_respell : ∀ r ∈ byteRows, r.Respells := by
  simp only [byteRows, List.forall_mem_cons]
  exact ⟨fun _ h => formatXB_fieldX h, fun _ h => formatXB_fieldX h, fun _ h => formatXB_fieldX h, fun _ h => formatXB_fieldX h,
    fun _ h => formatXB_fieldX h, fun _ h => formatXB_fieldX h, fun _ h => formatXB_fieldX h, fun _ h => formatXB_fieldX h,
    fun _ h => formatXB_fieldX h, fun _ h => formatXB_fieldX h, fun _ h => formatXB_fieldX h, List.forall_mem_nil _⟩

theorem opcodeRows_respell : ∀ r ∈ opcodeRows, r.Respells := by
  intro r hr
  rcases List.mem_append.mp hr with hr | hr
  · rcases List.mem_append.mp hr with hr | hr
    · exact nibbleRows_respell r hr
    · exact aluRows_respell r hr
  · exact byteRows_respell r hr

/-- Only SYS 0E0 and SYS 0EE are not well formed, and their fields spell the words of CLS and RET (R86). -/
theorem encode_of_not_wellFormed {i : Instr} (h : i.wellFormed = false) : encode i = 0x00E0 ∨ encode i = 0x00EE := by
  cases i with
  | sys nnn =>
    obtain rfl | rfl : nnn = 0x0E0 ∨ nnn = 0x0EE := by
      simpa [Instr.wellFormed, Decidable.or_iff_not_imp_left] using h
    · exact .inl rfl
    · exact .inr rfl
  | _ => cases h

/-- Settles O3: CLS and RET have their words, and the row that decodes any other word spells it back. -/
theorem decodedInstructionEncodesToItsWord : Obligations.DecodedInstructionEncodesToItsWord := by
  intro w i h
  unfold decode at h
  split at h
  · next hw => cases h; exact ⟨rfl, hw.symm⟩
  next hcls =>
  split at h
  · next hw => cases h; exact ⟨rfl, hw.symm⟩
  next hret =>
  split at h
  · next r hr =>
    cases h
    have hsel : r.selects w = true := List.find?_some (p := fun r : OpcodeRow => r.selects w) hr
    have henc : encode (r.build w) = w :=
      opcodeRows_respell r (List.mem_of_find?_eq_some hr) w (OpcodeRow.selects_iff.mp hsel)
    refine ⟨Bool.of_not_eq_false fun hwf => ?_, henc⟩
    obtain he | he := encode_of_not_wellFormed hwf
    · exact hcls (henc.symm.trans he)
    · exact hret (henc.symm.trans he)
  · cases h

/-- Settles O1: each word is evaluated by the decoder. -/
theorem writtenWordsDecodeAsTheTableSays : Obligations.WrittenWordsDecodeAsTheTableSays := by
  unfold Obligations.WrittenWordsDecodeAsTheTableSays
  decide

end Sys2Proof
end

section
/-!
PROOFS. The illegal words, spec/30_encoding.md R87: a word is refused when no row selects it; every word is its four digits, so
what each mask leaves of it is a sum of digits, and the two sides of R87's table are compared digit by digit.
-/

namespace Sys2Proof

/-- R89: a word is refused exactly when no row of R85 selects it; CLS's and RET's words are among those SYS's row selects. -/
theorem decode_eq_error_iff {w : Word} :
    decode w = .error .unknownInstruction ↔ ∀ r ∈ opcodeRows, w &&& r.mask ≠ r.pattern := by
  constructor
  · intro h r hr hw
    obtain ⟨k, hk⟩ := List.mem_iff_getElem?.mp hr
    have hdec : w ≠ 0x00E0 → w ≠ 0x00EE → decode w = .ok (r.build w) :=
      SelectedBy.decode_eq ⟨hk, OpcodeRow.selects_iff.mpr hw⟩
    have hcls : w ≠ 0x00E0 := by rintro rfl; cases h
    have hret : w ≠ 0x00EE := by rintro rfl; cases h
    cases h.symm.trans (hdec hcls hret)
  · intro h
    have hnone : opcodeRows.find? (fun r => r.selects w) = none :=
      List.find?_eq_none.mpr fun r hr hs => h r hr (OpcodeRow.selects_iff.mp hs)
    have hsys : w &&& 0xF000 ≠ 0 := h _ (List.getElem_mem (l := opcodeRows) (n := 0) (by decide))
    obtain ⟨hcls, hret⟩ := ne_cls_and_ne_ret_of_leadingDigit hsys
    rw [decode, if_neg hcls, if_neg hret, hnone]

theorem exists_eq_formatXY (w : Word) : ∃ op x y last, w = formatXY op x y last := by
  refine ⟨w.extractLsb' 12 4, fieldX w, fieldY w, w.extractLsb' 0 4, ?_⟩
  apply BitVec.eq_of_getLsbD_eq; intro k hk
  simp only [getLsbD_formatXY, testBit_fieldX, testBit_fieldY, BitVec.getLsbD_extractLsb']
  interval_cases k <;> simp

theorem toNat_formatXY (op : BitVec 4) (x y : Reg) (last : BitVec 4) :
    (formatXY op x y last).toNat = op.toNat * 4096 + x.val * 256 + y.val * 16 + last.toNat := by
  simp only [formatXY, BitVec.toNat_append, BitVec.toNat_ofFin]
  rw [← Nat.shiftLeft_add_eq_or_of_lt last.isLt, ← Nat.shiftLeft_add_eq_or_of_lt (i := 4) y.isLt,
    ← Nat.shiftLeft_add_eq_or_of_lt (i := 4) x.isLt]
  simp only [Nat.shiftLeft_eq]
  omega

theorem formatXY_and_F000_toNat (op : BitVec 4) (x y : Reg) (last : BitVec 4) :
    (formatXY op x y last &&& 0xF000).toNat = op.toNat * 4096 := by
  have h : formatXY op x y last &&& 0xF000 = formatXY op 0 0 0 := by
    apply BitVec.eq_of_getLsbD_eq; intro k hk
    simp only [getLsbD_formatXY, BitVec.getLsbD_and]
    interval_cases k <;> simp
  rw [h, toNat_formatXY]; simp

theorem formatXY_and_F00F_toNat (op : BitVec 4) (x y : Reg) (last : BitVec 4) :
    (formatXY op x y last &&& 0xF00F).toNat = op.toNat * 4096 + last.toNat := by
  rw [formatXY_and_F00F, toNat_formatXY]; simp

theorem formatXY_and_F0FF_toNat (op : BitVec 4) (x y : Reg) (last : BitVec 4) :
    (formatXY op x y last &&& 0xF0FF).toNat = op.toNat * 4096 + (y.val * 16 + last.toNat) := by
  have h : formatXY op x y last &&& 0xF0FF = formatXY op 0 y last := by
    apply BitVec.eq_of_getLsbD_eq; intro k hk
    simp only [getLsbD_formatXY, BitVec.getLsbD_and]
    interval_cases k <;> simp
  rw [h, toNat_formatXY]; simp [Nat.add_assoc]

/-- A leading digit and the rest of a word are a pattern's exactly when each is the pattern's own. -/
theorem leadingDigit_add_eq_iff {a r p : Nat} (hr : r < 4096) : a * 4096 + r = p ↔ a = p / 4096 ∧ r = p % 4096 := by
  omega

theorem leadingDigit_eq_iff {a p : Nat} : a * 4096 = p ↔ a = p / 4096 ∧ p % 4096 = 0 := by omega

/-- Settles O5: a refused word is one no row selects, and with its digits `a`, `x`, `y`, `d` both sides speak of sums of digits;
they are compared for each leading digit. -/
theorem refusedWordsAreTheIllegalSpace : Obligations.RefusedWordsAreTheIllegalSpace := by
  intro w
  obtain ⟨op, x, y, last, rfl⟩ := exists_eq_formatXY w
  have ha := op.isLt
  have hx := x.isLt
  have hy := y.isLt
  have hd := last.isLt
  have hlead : (formatXY op x y last).toNat / 4096 = op.toNat := by rw [toNat_formatXY]; omega
  have hbyte : (formatXY op x y last).toNat % 256 = y.val * 16 + last.toNat := by rw [toNat_formatXY]; omega
  have hlast : (formatXY op x y last).toNat % 16 = last.toNat := by rw [toNat_formatXY]; omega
  rw [decode_eq_error_iff, hlead, hbyte, hlast]
  simp only [opcodeRows, nibbleRows, aluRows, byteRows, List.forall_mem_append, List.forall_mem_cons, ne_eq,
    ← BitVec.toNat_inj, formatXY_and_F000_toNat, formatXY_and_F00F_toNat, formatXY_and_F0FF_toNat, BitVec.reduceToNat]
  generalize op.toNat = a at ha ⊢
  generalize last.toNat = d at hd ⊢
  generalize y.val = y at hy ⊢
  simp only [leadingDigit_eq_iff, leadingDigit_add_eq_iff (r := d) (by omega),
    leadingDigit_add_eq_iff (r := y * 16 + d) (by omega), Nat.reduceDiv, Nat.reduceMod]
  interval_cases a <;> simp
  all_goals omega

end Sys2Proof
end

section
/-!
PROOFS. Memory, spec/20_memory.md: the canonical form is canonical (compare two lists at the lowest address either one holds), and
a stored byte is in the next fetch (R73).
-/

namespace Sys2Proof.Machine

open Claims

/-- An address no cell has reads as it does unlisted. -/
theorem Memory.read_of_forall_ne {font : Font} {m : Memory} {a : Nat} (h : ∀ c ∈ m, c.1 ≠ a) :
    Memory.read font m a = Memory.unlisted font a := by
  induction m with
  | nil => rfl
  | cons c m ih =>
    rw [Memory.read, if_neg (h c List.mem_cons_self), ih fun d hd => h d (List.mem_cons_of_mem c hd)]

theorem Memory.read_cons_same (font : Font) (c : Host.Cell) (m : Memory) : Memory.read font (c :: m) c.1 = c.2 :=
  if_pos rfl

theorem Memory.wf_tail {font : Font} {c : Host.Cell} {m : Memory} (h : Memory.wf font (c :: m)) : Memory.wf font m :=
  ⟨(List.pairwise_cons.mp h.1).2, fun d hd => h.2 d (List.mem_cons_of_mem c hd)⟩

/-- In canonical form the first cell's address is not listed again. -/
theorem Memory.read_tail_head {font : Font} {c : Host.Cell} {m : Memory} (h : Memory.wf font (c :: m)) :
    Memory.read font m c.1 = Memory.unlisted font c.1 :=
  Memory.read_of_forall_ne fun d hd => Nat.ne_of_gt ((List.pairwise_cons.mp h.1).1 d hd)

theorem Memory.head_ne_unlisted {font : Font} {c : Host.Cell} {m : Memory} (h : Memory.wf font (c :: m)) :
    Memory.read font (c :: m) c.1 ≠ Memory.unlisted font c.1 := by
  rw [Memory.read_cons_same]
  exact (h.2 c List.mem_cons_self).2

/-- A memory that reads the same as another lists no lower address first. -/
theorem Memory.not_head_lt {font : Font} {c d : Host.Cell} {m n : Memory} (hm : Memory.wf font (c :: m))
    (hn : Memory.wf font (d :: n)) (hr : ∀ a, Memory.read font (c :: m) a = Memory.read font (d :: n) a) :
    ¬ c.1 < d.1 := by
  intro hlt
  refine Memory.head_ne_unlisted hm ((hr c.1).trans (Memory.read_of_forall_ne fun e he => ?_))
  rcases List.mem_cons.mp he with rfl | he
  · exact Nat.ne_of_gt hlt
  · exact Nat.ne_of_gt (hlt.trans ((List.pairwise_cons.mp hn.1).1 e he))

/-- Two canonical memories that read alike and begin with the same cell go on alike. -/
theorem Memory.read_tails_eq {font : Font} {c : Host.Cell} {m n : Memory} (hm : Memory.wf font (c :: m))
    (hn : Memory.wf font (c :: n)) (hr : ∀ a, Memory.read font (c :: m) a = Memory.read font (c :: n) a) (a : Nat) :
    Memory.read font m a = Memory.read font n a := by
  by_cases ha : c.1 = a
  · subst ha
    exact (Memory.read_tail_head hm).trans (Memory.read_tail_head hn).symm
  · simpa [Memory.read, ha] using hr a

/-- Settles O24, by induction on one memory: neither list can begin at the lower address, so they begin with the same cell, and
the rest reads alike too. -/
theorem canonicalMemoriesThatReadAlikeAreEqual : Obligations.CanonicalMemoriesThatReadAlikeAreEqual := by
  intro font m
  induction m with
  | nil =>
    rintro (_ | ⟨d, n⟩) - hn hr
    · rfl
    · exact absurd (hr d.1).symm (Memory.head_ne_unlisted hn)
  | cons c m ih =>
    rintro (_ | ⟨d, n⟩) hm hn hr
    · exact absurd (hr c.1) (Memory.head_ne_unlisted hm)
    · have haddr : c.1 = d.1 :=
        Nat.le_antisymm (Nat.le_of_not_lt (Memory.not_head_lt hn hm fun a => (hr a).symm))
          (Nat.le_of_not_lt (Memory.not_head_lt hm hn hr))
      have hbyte : c.2 = d.2 := by
        have h := hr c.1
        rwa [Memory.read_cons_same, haddr, Memory.read_cons_same] at h
      obtain rfl : c = d := Prod.ext haddr hbyte
      rw [ih n (Memory.wf_tail hm) (Memory.wf_tail hn) (Memory.read_tails_eq hm hn hr)]

/-- R65: the word of two bytes is the number they spell, high byte first. -/
theorem wordOfBytes_eq_ofNat (hi lo : Byte) : wordOfBytes hi lo = BitVec.ofNat 16 (hi.toNat * 256 + lo.toNat) := by
  apply BitVec.eq_of_toNat_eq
  have hh := hi.isLt
  have hl := lo.isLt
  rw [wordOfBytes, BitVec.toNat_append, BitVec.toNat_ofNat, ← Nat.shiftLeft_add_eq_or_of_lt hl, Nat.shiftLeft_eq,
    Nat.mod_eq_of_lt (by omega)]

/-- A fetch inside memory reads the word at pc. -/
theorem fetch_eq_wordAt {s : State} (h : s.pc.toNat + 1 ≤ 4095) :
    s.fetch = .ok (BitVec.ofNat 16 (wordAt s s.pc.toNat)) := by
  rw [fetch_ok s (by omega), wordOfBytes_eq_ofNat]; rfl

/-- Settles O25: the fetch reads the byte written and the other byte as it was. -/
theorem storedByteIsSeenByTheNextFetch : Obligations.StoredByteIsSeenByTheNextFetch := by
  intro s b h
  constructor
  · rw [fetch_eq_wordAt (by simpa using h), wordAt, writeByte_pc, readByte_writeByte_same _ _ (by simp [memorySize]; omega),
      readByte_writeByte_other _ _ (by omega)]
  · rw [fetch_eq_wordAt (by simpa using h), wordAt, writeByte_pc, readByte_writeByte_other _ _ (by omega),
      readByte_writeByte_same _ _ (by simp [memorySize]; omega)]

end Sys2Proof.Machine
end

section
/-!
PROOFS. Stores and loads of bytes, spec/43_index_memory.md R174 to R177: what each of the three instructions answers on either
side of its range check, which bytes the block of Fx55 and the digits of Fx33 are, and the two laws.
-/

namespace Sys2Proof.Machine

open Claims

section Answers
variable {s : State} {x : Reg}

theorem exec_ldBVx_of_le (h : s.i.toNat + 2 ≤ 4095) :
    exec (.ldBVx x) s = .next (s.writeBytes s.i.toNat (bcdDigits (s.reg x))).advance := by
  have hr : rangeFaults s.base 3 = false := rangeFaults_eq_false_iff.mpr (.inr (by simp only [State.base, memorySize]; omega))
  simp [exec, execLdBVx, hr]; rfl

theorem exec_ldBVx_of_gt (h : s.i.toNat + 2 > 4095) : exec (.ldBVx x) s = raiseFatal .memoryOutOfBounds s :=
  if_pos (rangeFaults_eq_true_iff.mpr ⟨by decide, by simp only [State.base, memorySize]; omega⟩)

theorem rangeFaults_regCount_of_le (h : s.i.toNat + x.val ≤ 4095) : rangeFaults s.base (regCount x) = false :=
  rangeFaults_eq_false_iff.mpr (.inr (by simp only [State.base, regCount, memorySize]; omega))

theorem rangeFaults_regCount_of_gt (h : s.i.toNat + x.val > 4095) : rangeFaults s.base (regCount x) = true :=
  rangeFaults_eq_true_iff.mpr ⟨Nat.succ_pos _, by simp only [State.base, regCount, memorySize]; omega⟩

theorem exec_ldMemVx_of_le (h : s.i.toNat + x.val ≤ 4095) :
    exec (.ldMemVx x) s = .next (s.writeBytes s.i.toNat (s.regList (regCount x))).advance := by
  simp [exec, execLdMemVx, rangeFaults_regCount_of_le h]; rfl

theorem exec_ldMemVx_of_gt (h : s.i.toNat + x.val > 4095) : exec (.ldMemVx x) s = raiseFatal .memoryOutOfBounds s :=
  if_pos (rangeFaults_regCount_of_gt h)

theorem exec_ldVxMem_of_le (h : s.i.toNat + x.val ≤ 4095) :
    exec (.ldVxMem x) s = .next (s.loadRegs s.i.toNat (regCount x)).advance := by
  simp [exec, execLdVxMem, rangeFaults_regCount_of_le h]; rfl

theorem exec_ldVxMem_of_gt (h : s.i.toNat + x.val > 4095) : exec (.ldVxMem x) s = raiseFatal .memoryOutOfBounds s :=
  if_pos (rangeFaults_regCount_of_gt h)

end Answers

theorem bcdDigits_toNat (v : Byte) :
    ((bcdDigits v)[0]'(Nat.succ_pos 2)).toNat = v.toNat / 100 ∧
      ((bcdDigits v)[1]'(Nat.lt_add_left 1 Nat.one_lt_two)).toNat = v.toNat / 10 % 10 ∧
      ((bcdDigits v)[2]'(Nat.lt_succ_self 2)).toNat = v.toNat % 10 := by
  have hv := v.isLt
  simp only [bcdDigits, List.getElem_cons_zero, List.getElem_cons_succ, BitVec.toNat_ofNat]
  omega

/-- Byte k that Fx33 stores is the k-th digit (R174). -/
theorem readByte_bcd {s : State} {x : Reg} (h : s.i.toNat + 2 ≤ 4095) {k : Nat} (hk : k < 3) :
    (s.writeBytes s.i.toNat (bcdDigits (s.reg x))).advance.readByte (s.i.toNat + k) = (bcdDigits (s.reg x))[k] :=
  readByte_writeBytes_inside s _ _ hk (Nat.succ_le_succ h)

/-- Settles O41: the three digits of Vx are stored, and a number below 256 is the sum of its digits. -/
theorem storeBcdWritesThreeDigits : Obligations.StoreBcdWritesThreeDigits := by
  intro s x
  refine ⟨fun h => ⟨_, exec_ldBVx_of_le h, ?_⟩, fun h => raise_changes_only_latch (exec_ldBVx_of_gt h)⟩
  obtain ⟨h0, h1, h2⟩ := bcdDigits_toNat (s.reg x)
  rw [← readByte_bcd h (by decide)] at h0 h1 h2
  rw [Nat.add_zero] at h0
  refine ⟨h0, h1, h2, ?_, fun b hb => readByte_writeBytes_outside s _ _ hb, movedOn_advance (s.writeBytes ..), rfl⟩
  rw [h0, h1, h2]
  omega

/-- Byte r of the block Fx55 stores is Vr (R175). -/
theorem readByte_dump {s : State} {x r : Reg} (h : s.i.toNat + x.val ≤ 4095) (hr : r ≤ x) :
    (s.writeBytes s.i.toNat (s.regList (regCount x))).readByte (s.i.toNat + r.val) = s.reg r := by
  have hlt : r.val < (s.regList (regCount x)).length := by rw [regList_length]; exact Nat.lt_succ_of_le hr
  rw [readByte_writeBytes_inside s _ _ hlt (by simp only [regList_length, regCount, memorySize]; omega), regList_getElem]
  exact congrArg s.reg (Fin.ext (Nat.mod_eq_of_lt r.isLt))

theorem sameBytesOutside_dump (s : State) (x : Reg) :
    s.sameBytesOutside (s.writeBytes s.i.toNat (s.regList (regCount x))).advance s.i.toNat (x.val + 1) :=
  fun _ hb => readByte_writeBytes_outside s _ _ (by rwa [regList_length])

/-- Settles O42, by `readByte_dump`. -/
theorem registerDumpStoresV0ToVx : Obligations.RegisterDumpStoresV0ToVx := fun s x =>
  ⟨fun h => ⟨_, exec_ldMemVx_of_le h, fun _ hr => readByte_dump h hr, sameBytesOutside_dump s x,
      movedOn_advance (s.writeBytes ..), rfl⟩,
    fun h => raise_changes_only_latch (exec_ldMemVx_of_gt h)⟩

/-- After Fx65, Vr for r up to x is the byte at I + r, and the registers above are kept (R176). -/
theorem reg_load (s : State) (x r : Reg) :
    (s.loadRegs s.i.toNat (regCount x)).advance.reg r = if r ≤ x then s.readByte (s.i.toNat + r.val) else s.reg r := by
  rw [advance_reg, regCount, loadRegs_reg s _ _ x.isLt]
  exact if_congr Nat.lt_succ_iff rfl rfl

/-- Settles O43, by `reg_load`. -/
theorem registerLoadFillsV0ToVx : Obligations.RegisterLoadFillsV0ToVx := by
  intro s x
  refine ⟨fun h => ⟨_, exec_ldVxMem_of_le h, fun r hr => ?_, fun r hr => ?_, loadRegs_readByte s _ _, ?_, ?_⟩,
    fun h => raise_changes_only_latch (exec_ldVxMem_of_gt h)⟩
  · rw [reg_load, if_pos hr]
  · rw [reg_load, if_neg (not_le.mpr hr)]
  · simp only [State.movedOn, advance_pc, loadRegs_pc]; exact BitVec.toNat_add s.pc 2
  · rw [loadRegs_eq]; rfl

/-- Settles O44: each byte the load reads is the one the dump stored. -/
theorem loadAfterDumpRestoresTheRegisters : Obligations.LoadAfterDumpRestoresTheRegisters := by
  intro s x h
  refine ⟨_, exec_ldMemVx_of_le h, sameBytesOutside_dump s x, fun u hi hbytes => ?_⟩
  have hi : u.i = s.i := hi
  refine ⟨_, exec_ldVxMem_of_le (by rwa [hi]), fun r hr => ?_, loadRegs_readByte u _ _⟩
  rw [reg_load, if_pos hr, hi, hbytes, advance_readByte, readByte_dump h hr]

end Sys2Proof.Machine
end

section
/-!
PROOFS. SYS, CALL, RET and the key skips, spec/41_control_flow.md R121, R122, R124, R130 and spec/45_keys_timers.md R210, R211:
the two answers of CALL and of RET by SP, and what a push leaves in each stack entry.
-/

namespace Sys2Proof.Machine

open Claims

/-- Settles O27: SYS answers a jump. -/
theorem sysSetsOnlyPc : Obligations.SysSetsOnlyPc := fun _ nnn => jump_sets_only_pc rfl (addrOperand_toNat nnn)

theorem exec_call_of_full {s : State} (nnn : Addr) (h : s.sp = 15) : exec (.call nnn) s = raiseFatal .stackOverflow s :=
  if_pos h

theorem exec_call_of_not_full {s : State} (nnn : Addr) (h : s.sp ≠ 15) :
    exec (.call nnn) s = .next ((s.push (s.pc + 2)).jumpTo (addrOperand nnn)) :=
  if_neg h

theorem exec_ret_of_empty {s : State} (h : s.sp = -1) : exec .ret s = raiseFatal .stackUnderflow s := if_pos h

theorem exec_ret_of_not_empty {s : State} (h : s.sp ≠ -1) : exec .ret s = .next (s.jumpTo s.stackTop).pop := if_neg h

/-- From a legal SP with room left, a push writes the entry above the top and keeps the others (R124). -/
theorem stack_push {s : State} (w : Word) (h0 : -1 ≤ s.sp) (h1 : s.sp < 15) (k : Fin 16) :
    (s.push w).stack[k] = if (k.val : Int) = s.sp + 1 then w else s.stack[k] := by
  have he := stackEntry_eq_some (sp := s.sp + 1) (by omega) (by omega)
  simp only [State.push, he, Fin.getElem_fin, Vector.getElem_set]
  exact if_congr (by omega) rfl rfl

theorem stackTop_of_sp_eq {s : State} {k : Fin 16} (h : s.sp = (k.val : Int)) : s.stackTop = s.stack[k] := by
  have hk := k.isLt
  simp [State.stackTop, h, stackEntry_eq_some (sp := (k.val : Int)) (by omega) (by omega)]

theorem stackTop_congr {s u : State} (hstack : u.stack = s.stack) (hsp : u.sp = s.sp) : u.stackTop = s.stackTop := by
  rw [State.stackTop, State.stackTop, hstack, hsp]

/-- Settles O28, by the two answers of CALL and `stack_push`. -/
theorem callPushesAndJumpsOrOverflows : Obligations.CallPushesAndJumpsOrOverflows := by
  intro s nnn
  refine ⟨fun h => raise_changes_only_latch (exec_call_of_full nnn h), fun h0 h1 => ?_⟩
  refine ⟨_, exec_call_of_not_full nnn (by omega), rfl, addrOperand_toNat nnn, fun k => ⟨fun hk => ?_, fun hk => ?_⟩, rfl,
    push_readByte s (s.pc + 2)⟩
  · rw [jumpTo_stack, stack_push _ h0 h1, if_pos hk]
    exact BitVec.toNat_add s.pc 2
  · rw [jumpTo_stack, stack_push _ h0 h1, if_neg hk]

/-- Settles O29, by the two answers of RET. -/
theorem retPopsOrUnderflows : Obligations.RetPopsOrUnderflows := fun _ =>
  ⟨fun h => raise_changes_only_latch (exec_ret_of_empty h),
    fun _ hk => ⟨_, exec_ret_of_not_empty (by omega), stackTop_of_sp_eq hk, rfl, rfl, fun _ => rfl⟩⟩

/-- Settles O30: the top of the stack is what CALL pushed, and pc + 2 does not wrap. -/
theorem retAfterCallReturnsBehindTheCall : Obligations.RetAfterCallReturnsBehindTheCall := by
  intro s nnn h0 h1 hpc
  refine ⟨_, exec_call_of_not_full nnn (by omega), fun u hstack hsp => ?_⟩
  have hsp : u.sp = s.sp + 1 := hsp
  have htop : u.stackTop = s.pc + 2 := (stackTop_congr (s := s.push (s.pc + 2)) hstack hsp).trans (stackTop_push s h0 h1)
  refine ⟨_, exec_ret_of_not_empty (by omega), ?_, ?_⟩
  · rw [pop_pc, jumpTo_pc, htop, BitVec.toNat_add]
    exact Nat.mod_eq_of_lt (by simp; omega)
  · rw [pop_sp, jumpTo_sp, hsp]; omega

/-- The model's key test is the statements' (R220, D21). -/
theorem checkPressed_eq_keyDown (s : State) (b : Byte) : s.checkPressed b = keyDown s b.toNat := rfl

/-- Settles O32: both answer a skip, on the key being down or up. -/
theorem keySkipsTestTheNamedKey : Obligations.KeySkipsTestTheNamedKey := by
  intro s x
  refine ⟨skip_moves_only_pc rfl (by rw [checkPressed_eq_keyDown]), ?_⟩
  have h := skip_moves_only_pc (i := .sknp x) (s := s) (p := ¬ keyDown s (s.reg x).toNat = true) rfl
    (by rw [checkPressed_eq_keyDown, Bool.not_eq_true', Bool.not_eq_true])
  simpa only [ite_not] using h

end Sys2Proof.Machine
end

section
/-!
PROOFS. Arithmetic, the random byte, and the key and timer instructions, spec/42_alu.md R142, R143, R147 to R152,
spec/43_index_memory.md R171 and spec/45_keys_timers.md R212 to R215: what is said once of a meaning that writes a result and a
flag, and each rule's arithmetic.
-/

namespace Sys2Proof.Machine

open Claims

/-- Settles O34: two register loads and one index load, the sums modulo 256 and 2^16. -/
theorem flaglessSumsAndCopyWriteOneRegister : Obligations.FlaglessSumsAndCopyWriteOneRegister := by
  intro s x y nn
  refine ⟨?_, load_writes_only_reg rfl, load_writes_only_index rfl ?_⟩
  · obtain ⟨t, ht, hreg, hframe⟩ := load_writes_only_reg (i := .addVxNn x nn) (s := s) rfl
    exact ⟨t, ht, hreg ▸ BitVec.toNat_add .., hframe⟩
  · rw [State.indexSum, BitVec.toNat_add, BitVec.toNat_setWidth_of_le (by decide)]

section ResultAndFlag
variable {s : State} {x : Reg} {b : Byte} {flag : Bool}

theorem flagByte_toNat_of_iff {p : Prop} [Decidable p] (h : flag = true ↔ p) :
    (flagByte flag).toNat = if p then 1 else 0 := by
  by_cases hp : p
  · rw [if_pos hp, h.mpr hp]; rfl
  · rw [if_neg hp, Bool.eq_false_iff.mpr (fun e => hp (h.mp e))]; rfl

/-- A meaning that writes a result to Vx, then a flag to VF, and moves on (R140). -/
theorem result_and_flag_write_only_regs {i : Instr} (h : exec i s = .next (s.setResultAndFlag x b flag).advance) :
    ∃ t, exec i s = .next t ∧ t.reg VF = flagByte flag ∧ (x ≠ VF → t.reg x = b) ∧ s.movedOn t ∧
      s.keepsAllBut t [x, VF] := by
  refine ⟨_, h, reg_setResultAndFlag_flag s x b flag, reg_setResultAndFlag_result s b flag,
    movedOn_advance (s.setResultAndFlag x b flag), fun r hr => ?_, setResultAndFlag_readByte s x b flag, rfl⟩
  simp only [List.mem_cons, List.not_mem_nil, or_false, not_or] at hr
  exact reg_setResultAndFlag_other s b flag hr.1 hr.2

end ResultAndFlag

/-- Settles O36: the sum modulo 256 and the carry. -/
theorem addWritesSumAndCarry : Obligations.AddWritesSumAndCarry := by
  intro s x y
  obtain ⟨t, ht, hflag, hres, hframe⟩ := result_and_flag_write_only_regs (i := .addVxVy x y) (s := s) rfl
  refine ⟨t, ht, ?_, fun hx => ?_, hframe⟩
  · exact (congrArg BitVec.toNat hflag).trans (flagByte_toNat_of_iff decide_eq_true_iff)
  · rw [hres hx, BitVec.toNat_add]

/-- A byte difference is the integers' difference modulo 256 (R140, D13). -/
theorem toNat_sub_eq_emod (a b : Byte) : ((a - b).toNat : Int) = ((a.toNat : Int) - b.toNat) % 256 := by
  have ha := a.isLt
  have hb := b.isLt
  rw [BitVec.toNat_sub]
  omega

/-- Settles O37: the two differences and the two strict comparisons. -/
theorem subtractionsWrapAndCompareStrictly : Obligations.SubtractionsWrapAndCompareStrictly := by
  intro s x y
  constructor
  · obtain ⟨t, ht, hflag, hres, hframe⟩ := result_and_flag_write_only_regs (i := .sub x y) (s := s) rfl
    refine ⟨t, ht, ?_, fun hx => ?_, hframe⟩
    · exact (congrArg BitVec.toNat hflag).trans (flagByte_toNat_of_iff decide_eq_true_iff)
    · rw [hres hx, toNat_sub_eq_emod]
  · obtain ⟨t, ht, hflag, hres, hframe⟩ := result_and_flag_write_only_regs (i := .subn x y) (s := s) rfl
    refine ⟨t, ht, ?_, fun hx => ?_, hframe⟩
    · exact (congrArg BitVec.toNat hflag).trans (flagByte_toNat_of_iff decide_eq_true_iff)
    · rw [hres hx, toNat_sub_eq_emod]

/-- The bit SHR moves out (R149). -/
theorem shrFlag_toNat (v : Byte) : (flagByte (shrFlag v)).toNat = v.toNat % 2 := by
  rw [flagByte_toNat_of_iff (p := v.toNat % 2 = 1) (by simp [shrFlag, BitVec.getLsbD, Nat.testBit_zero])]
  split <;> omega

/-- The bit SHL moves out (R151). -/
theorem shlFlag_toNat (v : Byte) : (flagByte (shlFlag v)).toNat = v.toNat / 128 := by
  have hv := v.isLt
  rw [flagByte_toNat_of_iff (p := v.toNat / 128 % 2 = 1) (by simp [shlFlag, BitVec.getLsbD, Nat.testBit_eq_decide_div_mod_eq])]
  split <;> omega

/-- Settles O38: the results and flags of the two shifts; neither meaning mentions y. -/
theorem shiftsMoveOneBitIntoVF : Obligations.ShiftsMoveOneBitIntoVF := by
  intro s x y y'
  constructor
  · obtain ⟨t, ht, hflag, hres, hframe⟩ := result_and_flag_write_only_regs (i := .shr x y) (s := s) rfl
    refine ⟨t, ht, ht, hflag ▸ shrFlag_toNat (s.reg x), fun hx => ?_, hframe⟩
    rw [hres hx, BitVec.toNat_ushiftRight, Nat.shiftRight_eq_div_pow]
  · obtain ⟨t, ht, hflag, hres, hframe⟩ := result_and_flag_write_only_regs (i := .shl x y) (s := s) rfl
    refine ⟨t, ht, ht, hflag ▸ shlFlag_toNat (s.reg x), fun hx => ?_, hframe⟩
    rw [hres hx, BitVec.toNat_shiftLeft, Nat.shiftLeft_eq]

/-- Settles O39: the draw is counted, then Vx takes the masked byte. -/
theorem randomByteIsMaskedAndDrawnOnce : Obligations.RandomByteIsMaskedAndDrawnOnce := by
  intro s x nn
  have hreg : (s.countDraw.setReg x (s.drawnByte &&& nn)).advance.reg x = Config.rngByte s.rngDraws &&& nn :=
    reg_setReg_same s.countDraw x _
  refine ⟨_, rfl, hreg, fun k hk => ?_, rfl, movedOn_advance (s.countDraw.setReg x _),
    fun r hr => reg_setReg_other s.countDraw _ (List.ne_of_not_mem_cons hr), fun _ => rfl, rfl⟩
  rw [hreg, BitVec.getLsbD_and, hk, Bool.and_false]

theorem awaitedKey_of_accepted {s : State} {k : Key} (hp : s.pending = some k)
    (hk : ¬(s.config.key0IsNone = true ∧ k = 0)) : s.awaitedKey = some k := by
  simp only [State.awaitedKey, hp]
  exact if_neg (by simpa using hk)

theorem awaitedKey_of_refused {s : State} (h : s.pending = none ∨ (s.config.key0IsNone = true ∧ s.pending = some 0)) :
    s.awaitedKey = none := by
  obtain h | ⟨hc, hp⟩ := h
  · simp only [State.awaitedKey, h]
  · simp [State.awaitedKey, hp, hc]

theorem exec_ldVxK_of_some {s : State} {k : Key} (x : Reg) (h : s.awaitedKey = some k) :
    exec (.ldVxK x) s = .next (s.consumePending.setReg x (BitVec.ofNat 8 k.val)).advance := by
  simp only [exec, execLdVxK, h]

theorem exec_ldVxK_of_none {s : State} (x : Reg) (h : s.awaitedKey = none) :
    exec (.ldVxK x) s = .next s.consumePending := by
  simp only [exec, execLdVxK, h]

/-- Settles O53: an accepted press is loaded and consumed; otherwise nothing but the press, if any, is gone. -/
theorem waitForKeyTakesThePressOrStalls : Obligations.WaitForKeyTakesThePressOrStalls := by
  intro s x
  refine ⟨fun k hp hk => ?_, fun h => ⟨_, exec_ldVxK_of_none x (awaitedKey_of_refused h), rfl, fun _ => rfl⟩⟩
  refine ⟨_, exec_ldVxK_of_some x (awaitedKey_of_accepted hp hk), ?_, rfl, movedOn_advance (s.consumePending.setReg x _),
    fun r hr => reg_setReg_other s.consumePending _ (List.ne_of_not_mem_cons hr), fun _ => rfl, rfl⟩
  have hlt := k.isLt
  rw [advance_reg, reg_setReg_same, BitVec.toNat_ofNat, Nat.mod_eq_of_lt (by omega)]

/-- Settles O54: each writes its one field and moves on. -/
theorem timerInstructionsMoveOneByte : Obligations.TimerInstructionsMoveOneByte := fun s x =>
  ⟨load_writes_only_reg rfl,
    ⟨_, rfl, rfl, movedOn_advance (s.setDelay (s.reg x)), rfl, setDelay_readByte s (s.reg x)⟩,
    ⟨_, rfl, rfl, bne_iff_ne, movedOn_advance (s.setSound (s.reg x)), rfl, setSound_readByte s (s.reg x)⟩⟩

end Sys2Proof.Machine
end

section
/-!
PROOFS. DRW is the rule's loop, spec/44_display.md R192: one drawPixel of the model is one turn of the loop on the framebuffer
and V; a sprite row is eight turns, and the rows are the whole loop. The range check around it.
-/

namespace Sys2Proof.Machine

open Claims

/-- What DRW's loop works on: the framebuffer and V. -/
def State.canvas (s : State) : Framebuffer × Vector Byte 16 := (s.fb, s.v)

/-- The registers a turn reads Vx and Vy from (D20). -/
def turnSource (s : State) (v : Vector Byte 16) : Vector Byte 16 := if s.config.drawRegRead = .live then v else s.v

theorem column_drawOrigin (s t : State) (x y : Reg) :
    (s.drawOrigin x y).column x t = (turnSource s t.v)[x] := by
  unfold State.drawOrigin turnSource
  cases s.config.drawRegRead <;> rfl

theorem row_drawOrigin (s t : State) (x y : Reg) :
    (s.drawOrigin x y).row y t = (turnSource s t.v)[y] := by
  unfold State.drawOrigin turnSource
  cases s.config.drawRegRead <;> rfl

/-- A 0 bit changes no cell (R190). -/
theorem Framebuffer.xorCell_false (fb : Framebuffer) (x : Fin 64) (y : Fin 32) : fb.xorCell x y false = fb :=
  Framebuffer.ext_cell fun x' y' => by rw [Framebuffer.cell_xorCell, Bool.and_false, Bool.xor_false]

theorem Framebuffer.collides_false (fb : Framebuffer) (x : Fin 64) (y : Fin 32) : fb.collides x y false = false :=
  Bool.and_false _

/-- drawPixel of a 1 bit: the cell is inverted, and VF set if the cell was 1 (R190, R192). -/
def inkCell (m : Framebuffer × Vector Byte 16) (px : Fin 64) (py : Fin 32) : Framebuffer × Vector Byte 16 :=
  (m.1.xorCell px py true, if m.1.cell px py then m.2.set VF 1 else m.2)

theorem canvas_drawBit_true (t : State) (o : Origin) (x y : Reg) (row col : Nat) :
    (t.drawBit o x y row col true).canvas =
      inkCell t.canvas (pixelX (o.column x t) col) (pixelY (o.row y t) row) := by
  unfold State.drawBit
  dsimp only
  rw [Framebuffer.collides_true]
  by_cases h : t.fb.cell (pixelX (o.column x t) col) (pixelY (o.row y t) row) = true
  · rw [if_pos h, inkCell, State.canvas, State.canvas, if_pos h]; rfl
  · rw [if_neg h, inkCell, State.canvas, State.canvas, if_neg h]; rfl

theorem canvas_drawBit_false (t : State) (o : Origin) (x y : Reg) (row col : Nat) :
    (t.drawBit o x y row col false).canvas = t.canvas := by
  unfold State.drawBit
  dsimp only
  rw [Framebuffer.collides_false, if_neg Bool.false_ne_true, State.canvas, xorCell_fb, Framebuffer.xorCell_false]
  rfl

/-- The place of a turn of the rule's loop, Vx and Vy taken from the given registers. -/
def turnSpot (source : Vector Byte 16) (x y : Reg) (p : Nat × Nat) : Fin 64 × Fin 32 :=
  (Fin.ofNat 64 (source[x].toNat + p.2), Fin.ofNat 32 (source[y].toNat + p.1))

/-- The sprite's bit at a turn. -/
def turnInk (s : State) (p : Nat × Nat) : Bool := (s.readByte (s.i.toNat + p.1)).toNat.testBit (7 - p.2)

theorem drawTurn_of_ink {s : State} (x y : Reg) (m : Framebuffer × Vector Byte 16) {p : Nat × Nat}
    (h : turnInk s p = true) :
    drawTurn s x y m p =
      inkCell m (turnSpot (turnSource s m.2) x y p).1 (turnSpot (turnSource s m.2) x y p).2 := by
  unfold drawTurn inkCell Framebuffer.xorCell
  simp only [Bool.xor_true]
  exact if_pos h

theorem drawTurn_of_no_ink {s : State} (x y : Reg) (m : Framebuffer × Vector Byte 16) {p : Nat × Nat}
    (h : ¬ turnInk s p = true) : drawTurn s x y m p = m :=
  if_neg h

/-- One drawPixel of the model is one turn of the rule's loop. -/
theorem canvas_drawBit (s t : State) (x y : Reg) (row col : Nat) :
    (t.drawBit (s.drawOrigin x y) x y row col (spriteBit (s.readByte (s.i.toNat + row)) col)).canvas =
      drawTurn s x y t.canvas (row, col) := by
  have hbit : spriteBit (s.readByte (s.i.toNat + row)) col = turnInk s (row, col) := rfl
  rw [hbit]
  by_cases h : turnInk s (row, col) = true
  · rw [h, canvas_drawBit_true, drawTurn_of_ink x y _ h, column_drawOrigin, row_drawOrigin]
    rfl
  · rw [drawTurn_of_no_ink x y _ h, Bool.eq_false_iff.mpr h, canvas_drawBit_false]

/-- A sprite row is the turns of its columns, in order. -/
theorem canvas_drawCols (s t : State) (x y : Reg) (row n : Nat) :
    (t.drawCols (s.drawOrigin x y) x y row (s.readByte (s.i.toNat + row)) n).canvas =
      ((List.range n).map (fun col => (row, col))).foldl (drawTurn s x y) t.canvas := by
  induction n with
  | zero => rfl
  | succ n ih =>
    rw [State.drawCols, canvas_drawBit, ih, List.range_succ, List.map_append, List.foldl_append]
    rfl

theorem drawOrder_succ (n : Nat) : drawOrder (n + 1) = drawOrder n ++ (List.range 8).map (fun col => (n, col)) := by
  rw [drawOrder, drawOrder, List.range_succ (n := n), List.flatMap_append, List.flatMap_singleton]

/-- The sprite's rows from a cleared VF are the rule's loop. -/
theorem canvas_drawRows (s : State) (x y : Reg) (n : Nat) :
    ((s.setFlag false).drawRows (s.drawOrigin x y) x y n).canvas = drawLoop s x y n := by
  induction n with
  | zero => rfl
  | succ n ih =>
    have hrow := canvas_drawCols s ((s.setFlag false).drawRows (s.drawOrigin x y) x y n) x y n 8
    rw [ih] at hrow
    simp only [State.drawRows, State.base, drawRows_readByte, drawRows_i, setFlag_readByte, setFlag_i]
    rw [hrow, drawLoop, drawLoop, drawOrder_succ, List.foldl_append]

/-- DRW's effect but for pc: the framebuffer and V are those of the rule's loop. -/
theorem drawRows_eq_drawLoop (s : State) (x y : Reg) (n : Nat) :
    (s.setFlag false).drawRows (s.drawOrigin x y) x y n =
      { s with fb := (drawLoop s x y n).1, v := (drawLoop s x y n).2 } := by
  rw [drawRows_eq, ← canvas_drawRows]
  rfl

/-- The state DRW answers in range. -/
def State.drawn (s : State) (x y : Reg) (n : Nat) : State :=
  { s with fb := (drawLoop s x y n).1, v := (drawLoop s x y n).2, pc := s.pc + 2 }

theorem exec_drw_of_inRange {s : State} (x y : Reg) {n : Fin 16} (h : n.val = 0 ∨ s.i.toNat + n.val - 1 ≤ 4095) :
    exec (.drw x y n) s = .next (s.drawn x y n.val) := by
  have hr : rangeFaults s.base n.val = false :=
    rangeFaults_eq_false_iff.mpr (by simp only [State.base, memorySize]; omega)
  simp only [exec, execDrw, hr, drawRows_eq_drawLoop]
  rfl

theorem exec_drw_of_outOfRange {s : State} (x y : Reg) {n : Fin 16} (h : 0 < n.val ∧ s.i.toNat + n.val - 1 > 4095) :
    exec (.drw x y n) s = raiseFatal .memoryOutOfBounds s :=
  if_pos (rangeFaults_eq_true_iff.mpr (by simp only [State.base, memorySize]; omega))

/-- Settles O49, by `canvas_drawRows`. -/
theorem drawIsTheRulesLoop : Obligations.DrawIsTheRulesLoop := fun s x y _ h =>
  ⟨_, exec_drw_of_inRange x y h, rfl, rfl, BitVec.toNat_add s.pc 2⟩

end Sys2Proof.Machine
end

section
/-!
PROOFS. The rule's loop as painting: a turn with a 1 bit inverts one cell, its place depending on the flag only, and raises the
flag if the cell was 1. Where no turn comes back to a cell an earlier one may have painted, each cell ends as its old bit XOR
"it was painted", and the flag says whether a painted cell was 1.
-/

namespace Sys2Proof.Machine

/-- A cell's column and row. -/
abbrev Spot := Fin 64 × Fin 32

section Painting
variable (spot : Bool → Nat × Nat → Spot) (ink : Nat × Nat → Bool)

/-- One turn: if it has ink, it inverts the cell its place gives, and raises the flag if that cell was 1. -/
def paintTurn (m : Framebuffer × Bool) (p : Nat × Nat) : Framebuffer × Bool :=
  if ink p then
    (m.1.xorCell (spot m.2 p).1 (spot m.2 p).2 true, m.2 || m.1.cell (spot m.2 p).1 (spot m.2 p).2)
  else m

/-- The cells that turns paint, in order. -/
def strokes : Framebuffer × Bool → List (Nat × Nat) → List Spot
  | _, [] => []
  | m, p :: ps => if ink p then spot m.2 p :: strokes (paintTurn spot ink m p) ps else strokes m ps

/-- No turn paints a cell that an earlier turn may have painted, the flag only rising in between. -/
def NeverReturns (ps : List (Nat × Nat)) : Prop := ps.Pairwise fun p q => ∀ f g : Bool, f ≤ g → spot f p ≠ spot g q

variable {spot ink}

theorem paintTurn_of_ink {m : Framebuffer × Bool} {p : Nat × Nat} (h : ink p = true) :
    paintTurn spot ink m p =
      (m.1.xorCell (spot m.2 p).1 (spot m.2 p).2 true, m.2 || m.1.cell (spot m.2 p).1 (spot m.2 p).2) :=
  if_pos h

theorem paintTurn_of_no_ink {m : Framebuffer × Bool} {p : Nat × Nat} (h : ¬ ink p = true) : paintTurn spot ink m p = m :=
  if_neg h

/-- A turn with ink inverts the cell at its place and no other. -/
theorem cell_paintTurn_of_ink {m : Framebuffer × Bool} {p : Nat × Nat} (h : ink p = true) (c : Spot) :
    (paintTurn spot ink m p).1.cell c.1 c.2 = (m.1.cell c.1 c.2 ^^ decide (c = spot m.2 p)) := by
  rw [paintTurn_of_ink h, Framebuffer.cell_xorCell, Bool.and_true]
  simp only [Prod.ext_iff]

theorem flag_le_paintTurn (m : Framebuffer × Bool) (p : Nat × Nat) : m.2 ≤ (paintTurn spot ink m p).2 := by
  by_cases h : ink p = true
  · rw [paintTurn_of_ink h]; exact Bool.left_le_or _ _
  · rw [paintTurn_of_no_ink h]

/-- A painted cell is the place of one of the turns, under a flag no lower than the first. -/
theorem exists_turn_of_mem_strokes {c : Spot} {ps : List (Nat × Nat)} : ∀ {m : Framebuffer × Bool},
    c ∈ strokes spot ink m ps → ∃ p ∈ ps, ∃ f, m.2 ≤ f ∧ ink p = true ∧ spot f p = c := by
  induction ps with
  | nil => intro m h; cases h
  | cons p ps ih =>
    intro m h
    unfold strokes at h
    split at h
    · next hp =>
      rcases List.mem_cons.mp h with rfl | h
      · exact ⟨p, List.mem_cons_self, m.2, le_refl _, hp, rfl⟩
      · obtain ⟨q, hq, f, hf, hrest⟩ := ih h
        exact ⟨q, List.mem_cons_of_mem p hq, f, (flag_le_paintTurn m p).trans hf, hrest⟩
    · obtain ⟨q, hq, hrest⟩ := ih h
      exact ⟨q, List.mem_cons_of_mem p hq, hrest⟩

/-- Where the places do not depend on the flag, the painted cells are the places of the turns with ink. -/
theorem mem_strokes_iff_of_fixed {place : Nat × Nat → Spot} (hfix : ∀ f p, spot f p = place p) {c : Spot}
    {ps : List (Nat × Nat)} : ∀ {m : Framebuffer × Bool},
    c ∈ strokes spot ink m ps ↔ ∃ p ∈ ps, ink p = true ∧ place p = c := by
  induction ps with
  | nil => simp [strokes]
  | cons p ps ih =>
    intro m
    unfold strokes
    by_cases hp : ink p = true
    · rw [if_pos hp, List.mem_cons, ih, List.exists_mem_cons_iff, hfix]
      simp [hp, eq_comm (a := c)]
    · simp [hp, ih]

theorem spot_not_mem_later_strokes {m : Framebuffer × Bool} {p : Nat × Nat} {ps : List (Nat × Nat)}
    (hn : NeverReturns spot (p :: ps)) : spot m.2 p ∉ strokes spot ink (paintTurn spot ink m p) ps := by
  intro h
  obtain ⟨q, hq, f, hf, -, he⟩ := exists_turn_of_mem_strokes h
  exact (List.pairwise_cons.mp hn).1 q hq m.2 f ((flag_le_paintTurn m p).trans hf) he.symm

/-- Each cell ends as its old bit XOR "it was painted". -/
theorem cell_foldl_paintTurn (c : Spot) {ps : List (Nat × Nat)} : ∀ {m : Framebuffer × Bool}, NeverReturns spot ps →
    (ps.foldl (paintTurn spot ink) m).1.cell c.1 c.2 = (m.1.cell c.1 c.2 ^^ decide (c ∈ strokes spot ink m ps)) := by
  induction ps with
  | nil => intro m _; simp [strokes]
  | cons p ps ih =>
    intro m hn
    rw [List.foldl_cons, ih (List.pairwise_cons.mp hn).2, strokes]
    by_cases hp : ink p = true
    · rw [cell_paintTurn_of_ink hp, if_pos hp]
      by_cases hc : c = spot m.2 p
      · subst hc
        simp [spot_not_mem_later_strokes hn]
      · simp [hc]
    · rw [if_neg hp, paintTurn_of_no_ink hp]

/-- The flag ends raised when it was, or when a painted cell was 1. -/
theorem flag_foldl_paintTurn {ps : List (Nat × Nat)} : ∀ {m : Framebuffer × Bool}, NeverReturns spot ps →
    ((ps.foldl (paintTurn spot ink) m).2 = true ↔
      m.2 = true ∨ ∃ c ∈ strokes spot ink m ps, m.1.cell c.1 c.2 = true) := by
  induction ps with
  | nil => intro m _; simp [strokes]
  | cons p ps ih =>
    intro m hn
    rw [List.foldl_cons, ih (List.pairwise_cons.mp hn).2, strokes]
    by_cases hp : ink p = true
    · have hkept : ∀ c ∈ strokes spot ink (paintTurn spot ink m p) ps,
          (paintTurn spot ink m p).1.cell c.1 c.2 = m.1.cell c.1 c.2 := by
        intro c hc
        have hne : c ≠ spot m.2 p := by rintro rfl; exact spot_not_mem_later_strokes hn hc
        rw [cell_paintTurn_of_ink hp, decide_eq_false hne, Bool.xor_false]
      have hflag : (paintTurn spot ink m p).2 = true ↔ m.2 = true ∨ m.1.cell (spot m.2 p).1 (spot m.2 p).2 = true := by
        rw [paintTurn_of_ink hp, Bool.or_eq_true]
      have hsome : (∃ c ∈ strokes spot ink (paintTurn spot ink m p) ps, (paintTurn spot ink m p).1.cell c.1 c.2 = true) ↔
          ∃ c ∈ strokes spot ink (paintTurn spot ink m p) ps, m.1.cell c.1 c.2 = true :=
        exists_congr fun c => and_congr_right fun hc => by rw [hkept c hc]
      rw [if_pos hp, hflag, hsome, or_assoc, List.exists_mem_cons_iff]
    · rw [if_neg hp, paintTurn_of_no_ink hp]

end Painting

end Sys2Proof.Machine
end

section
/-!
PROOFS. DRW paints: its loop is painting from a lowered flag, and it never returns to a cell, since later turns lie further on in
row-major order and the flag in VF only rises by one. From that, its cells and its flag in every form (R39, R192), the sprite
where VF is not read (R194), and the double draw (R196).
-/

namespace Sys2Proof.Machine

open Claims

section Turns
variable (s : State) (x y : Reg)

/-- V with the flag's byte in VF. -/
def flaggedRegs (f : Bool) : Vector Byte 16 := s.v.set VF (flagByte f)

/-- The place of a turn of DRW when VF holds the flag. -/
def drawSpot (f : Bool) (p : Nat × Nat) : Spot := turnSpot (turnSource s (flaggedRegs s f)) x y p

/-- The painting DRW does: cells and flag. -/
def drawPainting (n : Nat) : Framebuffer × Bool :=
  (drawOrder n).foldl (paintTurn (drawSpot s x y) (turnInk s)) (s.fb, false)

/-- The cells DRW paints. -/
def drawStrokes (n : Nat) : List Spot := strokes (drawSpot s x y) (turnInk s) (s.fb, false) (drawOrder n)

/-- A turn of the rule's loop paints the canvas and keeps the flag in VF. -/
theorem drawTurn_flaggedRegs (m : Framebuffer × Bool) (p : Nat × Nat) :
    drawTurn s x y (m.1, flaggedRegs s m.2) p =
      ((paintTurn (drawSpot s x y) (turnInk s) m p).1,
        flaggedRegs s (paintTurn (drawSpot s x y) (turnInk s) m p).2) := by
  by_cases h : turnInk s p = true
  · have hv (old : Bool) : (if old then (flaggedRegs s m.2).set VF 1 else flaggedRegs s m.2) = flaggedRegs s (m.2 || old) := by
      cases old <;> simp [flaggedRegs, flagByte]
    rw [drawTurn_of_ink x y _ h, paintTurn_of_ink h, inkCell]
    exact Prod.ext rfl (hv _)
  · rw [drawTurn_of_no_ink x y _ h, paintTurn_of_no_ink h]

theorem drawLoop_eq_painting (n : Nat) :
    drawLoop s x y n = ((drawPainting s x y n).1, flaggedRegs s (drawPainting s x y n).2) :=
  List.foldl_hom (fun m : Framebuffer × Bool => (m.1, flaggedRegs s m.2)) (drawTurn_flaggedRegs s x y)
    (init := (s.fb, false))

theorem mem_drawOrder {n : Nat} {p : Nat × Nat} : p ∈ drawOrder n ↔ p.1 < n ∧ p.2 < 8 := by
  obtain ⟨row, col⟩ := p
  simp [drawOrder]

/-- The turns stand in row-major order. -/
theorem drawOrder_pairwise (n : Nat) :
    (drawOrder n).Pairwise fun p q => p.1 < q.1 ∨ p.1 = q.1 ∧ p.2 < q.2 := by
  refine List.pairwise_flatMap.mpr ⟨fun row _ => ?_, ?_⟩
  · exact List.pairwise_map.mpr (List.pairwise_lt_range.imp fun h => .inr ⟨rfl, h⟩)
  · refine List.pairwise_lt_range.imp fun h p hp q hq => .inl ?_
    obtain ⟨col, -, rfl⟩ := List.mem_map.mp hp
    obtain ⟨col', -, rfl⟩ := List.mem_map.mp hq
    exact h

/-- Raising the flag raises the byte a turn reads from a register by one at most. -/
theorem turnSource_flaggedRegs_le {f g : Bool} (h : f ≤ g) (r : Reg) :
    (turnSource s (flaggedRegs s f))[r].toNat ≤ (turnSource s (flaggedRegs s g))[r].toNat ∧
      (turnSource s (flaggedRegs s g))[r].toNat ≤ (turnSource s (flaggedRegs s f))[r].toNat + 1 := by
  have hflag : (flagByte f).toNat ≤ (flagByte g).toNat ∧ (flagByte g).toNat ≤ (flagByte f).toNat + 1 := by
    revert h; revert f g; decide
  unfold turnSource flaggedRegs
  split
  · simp only [Fin.getElem_fin, Vector.getElem_set]
    split
    · exact hflag
    · exact ⟨le_refl _, Nat.le_succ _⟩
  · exact ⟨le_refl _, Nat.le_succ _⟩

/-- With at most 16 rows of 8 columns no cell is drawn twice, whatever VF does to the origin (R192, D20). -/
theorem drawSpot_neverReturns {n : Nat} (hn : n ≤ 16) : NeverReturns (drawSpot s x y) (drawOrder n) := by
  refine (drawOrder_pairwise n).imp_of_mem fun {p q} hp hq hlt f g hfg he => ?_
  have hpn := mem_drawOrder.mp hp
  have hqn := mem_drawOrder.mp hq
  have hx := turnSource_flaggedRegs_le s hfg x
  have hy := turnSource_flaggedRegs_le s hfg y
  have hcol := congrArg (fun c : Spot => c.1.val) he
  have hrow := congrArg (fun c : Spot => c.2.val) he
  simp only [drawSpot, turnSpot, Fin.val_ofNat] at hcol hrow
  omega

/-- Each cell ends as its old bit XOR "DRW painted it". -/
theorem cell_drawLoop {n : Nat} (hn : n ≤ 16) (c : Spot) :
    (drawLoop s x y n).1.cell c.1 c.2 = (s.fb.cell c.1 c.2 ^^ decide (c ∈ drawStrokes s x y n)) := by
  rw [drawLoop_eq_painting]
  exact cell_foldl_paintTurn c (drawSpot_neverReturns s x y hn)

theorem flag_drawPainting {n : Nat} (hn : n ≤ 16) :
    (drawPainting s x y n).2 = true ↔ ∃ c ∈ drawStrokes s x y n, s.fb.cell c.1 c.2 = true :=
  (flag_foldl_paintTurn (drawSpot_neverReturns s x y hn)).trans (or_iff_right Bool.false_ne_true)

end Turns

section Answer
variable {s : State} {x y : Reg} {n : Fin 16}

theorem reg_drawn_VF : (s.drawn x y n).reg VF = flagByte (drawPainting s x y n).2 := by
  simp [State.drawn, State.reg, drawLoop_eq_painting, flaggedRegs]

theorem reg_drawn_of_ne {r : Reg} (h : r ≠ VF) : (s.drawn x y n).reg r = s.reg r := by
  simp only [State.drawn, drawLoop_eq_painting]
  exact reg_setReg_other s _ h

theorem flagByte_eq_one_iff {f : Bool} : flagByte f = 1 ↔ f = true := by cases f <;> decide

theorem flagByte_eq_zero_or_one (f : Bool) : flagByte f = 0 ∨ flagByte f = 1 := by cases f <;> decide

theorem reg_drawn_VF_eq_zero_or_one : (s.drawn x y n).reg VF = 0 ∨ (s.drawn x y n).reg VF = 1 :=
  reg_drawn_VF ▸ flagByte_eq_zero_or_one _

/-- VF is 1 when a painted cell was 1 before. -/
theorem reg_drawn_VF_eq_one_iff :
    (s.drawn x y n).reg VF = 1 ↔ ∃ c ∈ drawStrokes s x y n, s.fb.cell c.1 c.2 = true := by
  rw [reg_drawn_VF, flagByte_eq_one_iff, flag_drawPainting s x y (Nat.le_of_lt n.isLt)]

/-- The cells of the state DRW answers. -/
theorem cell_drawn (c : Spot) :
    (s.drawn x y n).fb.cell c.1 c.2 = (s.fb.cell c.1 c.2 ^^ decide (c ∈ drawStrokes s x y n)) :=
  cell_drawLoop s x y (Nat.le_of_lt n.isLt) c

/-- Settles O47: in range the loop changes V and the framebuffer, of V only VF, and without rows it changes no cell. -/
theorem drawCompletesInRangeOrIsFatal : Obligations.DrawCompletesInRangeOrIsFatal := by
  intro s x y n
  refine ⟨fun h => ⟨_, exec_drw_of_inRange x y h, BitVec.toNat_add s.pc 2,
      fun r hr => reg_drawn_of_ne (List.ne_of_not_mem_cons hr), fun h0 => ?_, fun _ => rfl, rfl⟩,
    fun h => raise_changes_only_latch (exec_drw_of_outOfRange x y h)⟩
  rw [reg_drawn_VF, h0]
  exact ⟨rfl, rfl⟩

/-- Settles O50: a painted cell was erased exactly when it was 1. -/
theorem drawFlagSaysAPixelWasErased : Obligations.DrawFlagSaysAPixelWasErased := by
  intro s x y n h
  refine ⟨_, exec_drw_of_inRange x y h, reg_drawn_VF_eq_zero_or_one, reg_drawn_VF_eq_one_iff.trans ?_⟩
  constructor
  · rintro ⟨⟨px, py⟩, hmem, hold⟩
    exact ⟨px, py, hold, by rw [cell_drawn (px, py), hold, decide_eq_true hmem]; rfl⟩
  · rintro ⟨px, py, hold, hnew⟩
    rw [cell_drawn (px, py), hold, Bool.true_xor, Bool.not_eq_false', decide_eq_true_iff] at hnew
    exact ⟨(px, py), hnew, hold⟩

/-- An origin that VF's writes do not reach (R192). -/
def OriginFixed (s : State) (x y : Reg) : Prop := (x ≠ VF ∧ y ≠ VF) ∨ s.config.drawRegRead = .snapshot

theorem turnSource_flaggedRegs_of_fixed {r : Reg} (h : r ≠ VF ∨ s.config.drawRegRead = .snapshot) (f : Bool) :
    (turnSource s (flaggedRegs s f))[r] = s.reg r := by
  obtain h | h := h
  · unfold turnSource
    split
    · exact reg_setReg_other s _ h
    · rfl
  · rw [turnSource, h]; rfl

theorem drawSpot_of_fixed (h : OriginFixed s x y) (f : Bool) (p : Nat × Nat) :
    drawSpot s x y f p = (pixelX (s.reg x) p.2, pixelY (s.reg y) p.1) := by
  have hx := turnSource_flaggedRegs_of_fixed (s := s) (h.imp_left And.left) f
  have hy := turnSource_flaggedRegs_of_fixed (s := s) (h.imp_left And.right) f
  rw [drawSpot, turnSpot, hx, hy]
  rfl

/-- From a fixed origin DRW paints the cells its sprite has a 1 bit on. -/
theorem mem_drawStrokes_iff_spriteOn (h : OriginFixed s x y) {px : Fin 64} {py : Fin 32} :
    (px, py) ∈ drawStrokes s x y n ↔ spriteOn s s.i.toNat (s.reg x).toNat (s.reg y).toNat n px py := by
  rw [drawStrokes, mem_strokes_iff_of_fixed (drawSpot_of_fixed h)]
  simp only [Prod.exists, mem_drawOrder, Prod.mk.injEq, Fin.ext_iff, pixelX, pixelY, Fin.val_ofNat, turnInk, spriteOn]
  exact exists_congr fun row => exists_congr fun col => by tauto

/-- The cells DRW leaves from a fixed origin. -/
theorem cell_drawn_eq_true_iff (h : OriginFixed s x y) (px : Fin 64) (py : Fin 32) :
    (s.drawn x y n).fb.cell px py = true ↔
      Xor (s.fb.cell px py = true) (spriteOn s s.i.toNat (s.reg x).toNat (s.reg y).toNat n px py) := by
  rw [cell_drawn (px, py), ← mem_drawStrokes_iff_spriteOn h]
  cases s.fb.cell px py <;> simp [Xor]

/-- The flag DRW leaves from a fixed origin. -/
theorem reg_drawn_VF_eq_one_iff_spriteOn (h : OriginFixed s x y) :
    (s.drawn x y n).reg VF = 1 ↔ ∃ px py, s.fb.cell px py = true ∧
      spriteOn s s.i.toNat (s.reg x).toNat (s.reg y).toNat n px py := by
  rw [reg_drawn_VF_eq_one_iff, Prod.exists]
  exact exists_congr fun px => exists_congr fun py => by rw [mem_drawStrokes_iff_spriteOn h, and_comm]

/-- Settles O48: from a fixed origin the painted cells are the sprite's. -/
theorem drawXorsTheSpriteAndFlagsCollision : Obligations.DrawXorsTheSpriteAndFlagsCollision := fun _ x y _ hr h =>
  ⟨_, exec_drw_of_inRange x y hr, cell_drawn_eq_true_iff h, reg_drawn_VF_eq_zero_or_one, reg_drawn_VF_eq_one_iff_spriteOn h⟩

end Answer

section DrawingTwice

/-- Two states with the same sprite bytes and base have the same sprite. -/
theorem spriteOn_congr {s u : State} {a ox oy n : Nat} (hbytes : ∀ row, row < n → u.readByte (a + row) = s.readByte (a + row))
    (px : Fin 64) (py : Fin 32) : spriteOn u a ox oy n px py ↔ spriteOn s a ox oy n px py := by
  unfold spriteOn
  refine exists_congr fun row => exists_congr fun col => and_congr_right fun hrow => ?_
  rw [hbytes row hrow]

/-- A byte is not 0 when one of its eight columns has a 1 bit. -/
theorem byte_ne_zero_iff (b : Byte) : b ≠ 0 ↔ ∃ col, col < 8 ∧ b.toNat.testBit (7 - col) = true := by
  constructor
  · intro h
    obtain ⟨k, hk⟩ : ∃ k, b.getLsbD k = true := by
      by_contra hno
      exact h (BitVec.eq_of_getLsbD_eq fun k _ => by simpa using fun e => hno ⟨k, e⟩)
    have hlt : k < 8 := BitVec.lt_of_getLsbD hk
    exact ⟨7 - k, by omega, by rwa [show 7 - (7 - k) = k by omega]⟩
  · rintro ⟨col, -, hcol⟩ rfl
    simp at hcol

/-- A sprite falls on some cell exactly when one of its bytes is not 0. -/
theorem exists_spriteOn_iff (s : State) (a ox oy n : Nat) :
    (∃ px py, spriteOn s a ox oy n px py) ↔ ∃ row, row < n ∧ s.readByte (a + row) ≠ 0 := by
  constructor
  · rintro ⟨px, py, row, col, hrow, hcol, -, -, hbit⟩
    exact ⟨row, hrow, (byte_ne_zero_iff _).mpr ⟨col, hcol, hbit⟩⟩
  · rintro ⟨row, hrow, hne⟩
    obtain ⟨col, hcol, hbit⟩ := (byte_ne_zero_iff _).mp hne
    exact ⟨Fin.ofNat 64 (ox + col), Fin.ofNat 32 (oy + row), row, col, hrow, hcol, rfl, rfl, hbit⟩

/-- What the second of two equal draws finds, and what it leaves: `u` has the framebuffer, origin and sprite that the first draw
from `s` left. -/
theorem drawn_twice {s u : State} {x y : Reg} {n : Fin 16} (hx : x ≠ VF) (hy : y ≠ VF)
    (hfb : u.fb = (s.drawn x y n).fb) (hrx : u.reg x = s.reg x) (hry : u.reg y = s.reg y) (hi : u.i = s.i)
    (hbytes : ∀ row, row < n.val → u.readByte (s.i.toNat + row) = s.readByte (s.i.toNat + row)) :
    (u.drawn x y n).fb = s.fb ∧
      ((u.drawn x y n).reg VF = 1 ↔ ∃ px py, s.fb.cell px py = false ∧
        spriteOn s s.i.toNat (s.reg x).toNat (s.reg y).toNat n.val px py) := by
  have hfix (w : State) : OriginFixed w x y := .inl ⟨hx, hy⟩
  have hsprite := spriteOn_congr (ox := (s.reg x).toNat) (oy := (s.reg y).toNat) hbytes
  have hcell (px : Fin 64) (py : Fin 32) : u.fb.cell px py = true ↔
      Xor (s.fb.cell px py = true) (spriteOn s s.i.toNat (s.reg x).toNat (s.reg y).toNat n px py) :=
    hfb ▸ cell_drawn_eq_true_iff (hfix s) px py
  constructor
  · refine Framebuffer.ext_cell fun px py => Bool.eq_iff_iff.mpr ?_
    rw [cell_drawn_eq_true_iff (hfix u), hcell, hi, hrx, hry, hsprite]
    simp only [Xor]
    tauto
  · rw [reg_drawn_VF_eq_one_iff_spriteOn (hfix u)]
    refine exists_congr fun px => exists_congr fun py => ?_
    rw [hcell, hi, hrx, hry, hsprite, ← Bool.not_eq_true]
    simp only [Xor]
    tauto

/-- Settles O51: the second draw undoes the first, and its flag is the first draw's untouched cells; on cleared cells those are
all the sprite's. -/
theorem drawingTwiceRestoresTheFramebuffer : Obligations.DrawingTwiceRestoresTheFramebuffer := by
  intro s x y n hx hy hr
  refine ⟨_, exec_drw_of_inRange x y hr, fun u hfb hrx hry hi hbytes => ?_⟩
  rw [reg_drawn_of_ne hx] at hrx
  rw [reg_drawn_of_ne hy] at hry
  have hi : u.i = s.i := hi
  rw [hi] at hbytes
  obtain ⟨hcells, hflag⟩ := drawn_twice hx hy hfb hrx hry hi hbytes
  refine ⟨_, exec_drw_of_inRange x y (by rwa [hi]), hcells, reg_drawn_VF_eq_zero_or_one, hflag, fun hcleared => ?_⟩
  rw [hflag, ← exists_spriteOn_iff]
  exact exists_congr fun px => exists_congr fun py => and_iff_right_of_imp (hcleared px py)

/-- A screen that is all 1, with I at the font's first byte, 0xF0. -/
def fullScreen : State := { State.reset with fb := Vector.replicate 32 (Vector.replicate 64 true) }

/-- Settles O52, refuting it: on a screen that is all 1 the first draw of one row 0xF0 clears four cells, and the second sets
them again and erases nothing, so VF is 0 though the sprite has a 1 bit. -/
theorem not_secondDrawFlagsEverySpriteWithAOneBit : ¬ Obligations.SecondDrawFlagsEverySpriteWithAOneBit := by
  intro h
  have hrange : (1 : Fin 16).val = 0 ∨ fullScreen.i.toNat + (1 : Fin 16).val - 1 ≤ 4095 := by decide
  have hflag := h fullScreen (fullScreen.drawn 0 1 1) ((fullScreen.drawn 0 1 1).drawn 0 1 1) 0 1 1 (by decide) (by decide)
    hrange (exec_drw_of_inRange 0 1 hrange) (exec_drw_of_inRange 0 1 hrange)
  have hzero : ((fullScreen.drawn 0 1 1).drawn 0 1 1).reg VF = 0 := by decide +kernel
  have hsprite : fullScreen.readByte (fullScreen.i.toNat + 0) ≠ 0 := by decide
  exact absurd (hzero.symm.trans (hflag.mpr ⟨0, by decide, hsprite⟩)) (by decide)

end DrawingTwice

end Sys2Proof.Machine
end

section
/-!
PROOFS. What every instruction does, said once: either its own check of R231's table fails and it raises that fatal error, or it
completes, with an effect that leaves pc alone, and pc then takes the value of R106's table. The rules about all instructions
read their fields off the effect.
-/

namespace Sys2Proof.Machine

open Claims

/-- V after Fx65: V0..Vx from the bytes at I, the rest kept (R176). -/
def loadedRegs (s : State) (x : Reg) : Vector Byte 16 :=
  Vector.ofFn fun r => if r ≤ x then s.readByte (s.i.toNat + r.val) else s.reg r

/-- The bytes Fx55 stores: V0..Vx (R175). -/
def dumpedBytes (s : State) (x : Reg) : List Byte := List.ofFn fun k : Fin (regCount x) => s.reg (Fin.ofNat 16 k.val)

/-- V after Fx0A: the accepted key in Vx, or as it was (R212). -/
def keyedRegs (s : State) (x : Reg) : Vector Byte 16 :=
  match s.awaitedKey with
  | none => s.v
  | some k => s.v.set x (BitVec.ofNat 8 k.val)

/-- An instruction's effect on everything but pc, when its check passes. -/
def effect : Instr → State → State
  | .cls, s => s.clearScreen
  | .ret, s => s.pop
  | .call _, s => s.push (s.pc + 2)
  | .ldVxNn x nn, s => s.setReg x nn
  | .addVxNn x nn, s => s.setReg x (s.reg x + nn)
  | .ldVxVy x y, s => s.setReg x (s.reg y)
  | .or x y, s => s.setReg x (s.reg x ||| s.reg y)
  | .and x y, s => s.setReg x (s.reg x &&& s.reg y)
  | .xor x y, s => s.setReg x (s.reg x ^^^ s.reg y)
  | .addVxVy x y, s => s.setResultAndFlag x (s.reg x + s.reg y) (addCarry (s.reg x) (s.reg y))
  | .sub x y, s => s.setResultAndFlag x (s.reg x - s.reg y) (subFlag (s.reg x) (s.reg y))
  | .shr x _, s => s.setResultAndFlag x (s.reg x >>> 1) (shrFlag (s.reg x))
  | .subn x y, s => s.setResultAndFlag x (s.reg y - s.reg x) (subnFlag (s.reg x) (s.reg y))
  | .shl x _, s => s.setResultAndFlag x (s.reg x <<< 1) (shlFlag (s.reg x))
  | .ldI nnn, s => s.setIndex (addrOperand nnn)
  | .rnd x nn, s => s.countDraw.setReg x (s.drawnByte &&& nn)
  | .drw x y n, s => { s with fb := (drawLoop s x y n.val).1, v := (drawLoop s x y n.val).2 }
  | .ldVxDt x, s => s.setReg x s.dt
  | .ldVxK x, s => { s with v := keyedRegs s x, pending := none }
  | .ldDtVx x, s => s.setDelay (s.reg x)
  | .ldStVx x, s => s.setSound (s.reg x)
  | .addIVx x, s => s.setIndex (s.indexSum x)
  | .ldFVx x, s => s.setIndex (glyphAddress (s.reg x))
  | .ldBVx x, s => s.writeBytes s.i.toNat (bcdDigits (s.reg x))
  | .ldMemVx x, s => s.writeBytes s.i.toNat (dumpedBytes s x)
  | .ldVxMem x, s => { s with v := loadedRegs s x }
  | .sys _, s | .jp _, s | .jpV0 _, s | .seVxNn _ _, s | .sneVxNn _ _, s | .seVxVy _ _, s | .sneVxVy _ _, s | .skp _, s
  | .sknp _, s => s

/-- The state an instruction whose check passes answers. -/
def State.completed (s : State) (i : Instr) : State := (effect i s).jumpTo (BitVec.ofNat 16 (pcAfter s i))

section Frame
variable (i : Instr) (s : State)

/-- No effect touches pc, FC, Speed, the latch, the keys or the settings. -/
theorem effect_frame :
    effect i s =
      { s with
        v := (effect i s).v, i := (effect i s).i, stack := (effect i s).stack, sp := (effect i s).sp,
        dt := (effect i s).dt, st := (effect i s).st, mem := (effect i s).mem, fb := (effect i s).fb,
        pending := (effect i s).pending, rngDraws := (effect i s).rngDraws } := by
  cases i <;> rfl

@[simp] theorem effect_pc : (effect i s).pc = s.pc := by rw [effect_frame]
@[simp] theorem effect_fc : (effect i s).fc = s.fc := by rw [effect_frame]
@[simp] theorem effect_speed : (effect i s).speed = s.speed := by rw [effect_frame]
@[simp] theorem effect_paused : (effect i s).paused = s.paused := by rw [effect_frame]
@[simp] theorem effect_faultReason : (effect i s).faultReason = s.faultReason := by rw [effect_frame]
@[simp] theorem effect_keys : (effect i s).keys = s.keys := by rw [effect_frame]
@[simp] theorem effect_config : (effect i s).config = s.config := by rw [effect_frame]

@[simp] theorem completed_fc : (s.completed i).fc = s.fc := effect_fc i s
@[simp] theorem completed_speed : (s.completed i).speed = s.speed := effect_speed i s
@[simp] theorem completed_paused : (s.completed i).paused = s.paused := effect_paused i s
@[simp] theorem completed_faultReason : (s.completed i).faultReason = s.faultReason := effect_faultReason i s
@[simp] theorem completed_keys : (s.completed i).keys = s.keys := effect_keys i s
@[simp] theorem completed_config : (s.completed i).config = s.config := effect_config i s

theorem completed_pc_toNat : (s.completed i).pc.toNat = pcAfter s i % 2 ^ 16 := BitVec.toNat_ofNat ..

end Frame

section Completion
variable {i : Instr} {s : State}

/-- A meaning that answers a jump to the table's pc completes. -/
theorem completes_of_jump {w : Word} (h : exec i s = .next ((effect i s).jumpTo w)) (hw : w.toNat = pcAfter s i) :
    exec i s = .next (s.completed i) := by
  rw [h, State.completed, ← hw, BitVec.ofNat_toNat, BitVec.setWidth_eq]

/-- A meaning that moves on by 2 completes. -/
theorem completes_of_advance (h : exec i s = .next (effect i s).advance) (hpc : pcAfter s i = s.pc.toNat + 2) :
    exec i s = .next (s.completed i) := by
  have hw : (effect i s).pc + 2 = BitVec.ofNat 16 (pcAfter s i) := by
    rw [effect_pc, hpc, BitVec.ofNat_add, BitVec.ofNat_toNat, BitVec.setWidth_eq]
    rfl
  rw [h, State.advance, hw, State.completed]

/-- A skip completes, when its condition is the table's. -/
theorem completes_of_skip {holds : Bool} {p : Prop} [Decidable p] (h : exec i s = .next ((effect i s).skipIf holds))
    (hp : holds = true ↔ p) (hpc : pcAfter s i = s.pc.toNat + if p then 4 else 2) :
    exec i s = .next (s.completed i) := by
  have hw : (effect i s).pc + (if holds then 4 else 2) = BitVec.ofNat 16 (pcAfter s i) := by
    rw [effect_pc, hpc, if_congr hp rfl rfl, BitVec.ofNat_add, BitVec.ofNat_toNat, BitVec.setWidth_eq]
    split <;> rfl
  rw [h, State.skipIf, hw, State.completed]

end Completion

theorem dumpedBytes_eq_regList (s : State) (x : Reg) : dumpedBytes s x = s.regList (regCount x) := by
  refine List.ext_getElem (by simp [dumpedBytes]) fun k h h' => ?_
  rw [regList_getElem]
  exact List.getElem_ofFn h

theorem loadRegs_eq_loadedRegs (s : State) (x : Reg) :
    s.loadRegs s.i.toNat (regCount x) = { s with v := loadedRegs s x } := by
  have hv : (s.loadRegs s.i.toNat (regCount x)).v = loadedRegs s x := by
    refine Vector.ext fun k hk => ?_
    rw [loadedRegs, Vector.getElem_ofFn]
    exact reg_load s x ⟨k, hk⟩
  rw [loadRegs_eq, hv]

theorem exec_ldVxK_eq_completed (s : State) (x : Reg) : exec (.ldVxK x) s = .next (s.completed (.ldVxK x)) := by
  cases h : s.awaitedKey with
  | none =>
    have heffect : effect (.ldVxK x) s = s.consumePending := by simp only [effect, keyedRegs, h]; rfl
    refine completes_of_jump (w := s.pc) ?_ (by simp [pcAfter, h])
    rw [exec_ldVxK_of_none x h, heffect]
    rfl
  | some k =>
    have heffect : effect (.ldVxK x) s = s.consumePending.setReg x (BitVec.ofNat 8 k.val) := by
      simp only [effect, keyedRegs, h]; rfl
    refine completes_of_advance ?_ (by simp [pcAfter, h])
    rw [exec_ldVxK_of_some x h, heffect]

/-- An instruction whose check fails raises that fatal error (R231, R234). -/
theorem exec_of_fault {i : Instr} {s : State} {r : FatalReason} (h : faultOf s i = some r) :
    exec i s = .next (s.enterFatal r) := by
  cases i with
  | ret =>
    obtain ⟨hsp, hr⟩ := Option.ite_none_right_eq_some.mp h
    cases hr; exact exec_ret_of_empty hsp
  | call nnn =>
    obtain ⟨hsp, hr⟩ := Option.ite_none_right_eq_some.mp h
    cases hr; exact exec_call_of_full nnn hsp
  | ldFVx x =>
    obtain ⟨hx, hr⟩ := Option.ite_none_right_eq_some.mp h
    cases hr; exact exec_ldFVx_of_gt hx
  | drw x y n =>
    obtain ⟨hn, hr⟩ := Option.ite_none_right_eq_some.mp h
    cases hr; exact exec_drw_of_outOfRange x y hn
  | ldBVx x =>
    obtain ⟨hi, hr⟩ := Option.ite_none_right_eq_some.mp h
    cases hr; exact exec_ldBVx_of_gt hi
  | ldMemVx x =>
    obtain ⟨hi, hr⟩ := Option.ite_none_right_eq_some.mp h
    cases hr; exact exec_ldMemVx_of_gt hi
  | ldVxMem x =>
    obtain ⟨hi, hr⟩ := Option.ite_none_right_eq_some.mp h
    cases hr; exact exec_ldVxMem_of_gt hi
  | _ => cases h

/-- An instruction whose check passes completes (R106). -/
theorem exec_of_no_fault {i : Instr} {s : State} (h : faultOf s i = none) : exec i s = .next (s.completed i) := by
  have check {p : Prop} [Decidable p] {r : FatalReason} (hp : (if p then some r else none) = none) : ¬ p :=
    fun hyes => by rw [if_pos hyes] at hp; cases hp
  cases i with
  | ret => exact completes_of_jump (exec_ret_of_not_empty (check h)) rfl
  | call nnn => exact completes_of_jump (exec_call_of_not_full nnn (check h)) (addrOperand_toNat nnn)
  | ldFVx x => exact completes_of_advance (exec_ldFVx_of_le (Nat.le_of_not_lt (check h))) rfl
  | drw x y n =>
    have hn := check h
    exact completes_of_advance (exec_drw_of_inRange x y (by omega)) rfl
  | ldBVx x => exact completes_of_advance (exec_ldBVx_of_le (Nat.le_of_not_lt (check h))) rfl
  | ldMemVx x =>
    refine completes_of_advance ((exec_ldMemVx_of_le (Nat.le_of_not_lt (check h))).trans ?_) rfl
    rw [← dumpedBytes_eq_regList]; rfl
  | ldVxMem x =>
    refine completes_of_advance ((exec_ldVxMem_of_le (Nat.le_of_not_lt (check h))).trans ?_) rfl
    rw [loadRegs_eq_loadedRegs]; rfl
  | ldVxK x => exact exec_ldVxK_eq_completed s x
  | sys nnn | jp nnn => exact completes_of_jump rfl (addrOperand_toNat nnn)
  | jpV0 nnn => exact completes_of_jump rfl (offsetTarget_toNat s nnn)
  | seVxNn x nn => exact completes_of_skip rfl beq_iff_eq rfl
  | sneVxNn x nn => exact completes_of_skip rfl bne_iff_ne rfl
  | seVxVy x y => exact completes_of_skip rfl beq_iff_eq rfl
  | sneVxVy x y => exact completes_of_skip rfl bne_iff_ne rfl
  | skp x => exact completes_of_skip rfl (by rw [checkPressed_eq_keyDown]) rfl
  | sknp x =>
    refine completes_of_skip (p := ¬ keyDown s (s.reg x).toNat = true) rfl ?_ ?_
    · rw [checkPressed_eq_keyDown, Bool.not_eq_true', Bool.not_eq_true]
    · rw [ite_not]; rfl
  | _ => exact completes_of_advance rfl rfl

/-- What an instruction can answer. -/
theorem exec_cases {i : Instr} {s t : State} (h : exec i s = .next t) :
    (∃ r, faultOf s i = some r ∧ t = s.enterFatal r) ∨ (faultOf s i = none ∧ t = s.completed i) := by
  cases hf : faultOf s i with
  | some r => exact .inl ⟨r, rfl, Host.Outcome.next.inj (h.symm.trans (exec_of_fault hf))⟩
  | none => exact .inr ⟨rfl, Host.Outcome.next.inj (h.symm.trans (exec_of_no_fault hf))⟩

/-- Every instruction answers a next state. -/
theorem exec_eq_next (i : Instr) (s : State) : ∃ t, exec i s = .next t := by
  cases hf : faultOf s i with
  | some r => exact ⟨_, exec_of_fault hf⟩
  | none => exact ⟨_, exec_of_no_fault hf⟩

/-- Settles O14: a failed check enters the fatal state, a completion keeps the latch. -/
theorem instructionsRaiseExactlyTheirFatalError : Obligations.InstructionsRaiseExactlyTheirFatalError := by
  intro i s
  cases hf : faultOf s i with
  | some r =>
    refine ⟨_, exec_of_fault hf, fun r' hr => ?_, fun h => nomatch h⟩
    cases hr; rfl
  | none =>
    exact ⟨_, exec_of_no_fault hf, fun r hr => (nomatch hr), fun _ => ⟨completed_paused i s, completed_faultReason i s⟩⟩

/-- Settles O21: a completion sets pc by R106's table, a failed check leaves it. -/
theorem pcAfterEveryInstruction : Obligations.PcAfterEveryInstruction := by
  intro i s t h
  obtain ⟨r, hf, rfl⟩ | ⟨hf, rfl⟩ := exec_cases h
  · exact ⟨fun hnone => (nomatch hf.symm.trans hnone), fun _ => rfl⟩
  · exact ⟨fun _ => completed_pc_toNat i s, fun hne => absurd hf hne⟩

end Sys2Proof.Machine
end

section
/-!
PROOFS. Who writes what (R22, R25 to R31, R36 to R38, R66), and that no instruction looks at the keypad, ST, FC or Speed except
those the spec names (R105, R219, R220, R243): each fact is read off the effect, the named instructions first.
-/

namespace Sys2Proof.Machine

open Claims

section Writers
variable {i : Instr} {s : State}

/-- An effect writes only the listed registers. -/
theorem effect_reg {r : Reg} (h : r ∉ regsWritten i) : (effect i s).reg r = s.reg r := by
  cases i with
  | ldVxNn x _ | addVxNn x _ | ldVxVy x _ | or x _ | and x _ | xor x _ | ldVxDt x =>
    exact reg_setReg_other s _ (List.ne_of_not_mem_cons h)
  | rnd x _ => exact reg_setReg_other s.countDraw _ (List.ne_of_not_mem_cons h)
  | addVxVy x _ | sub x _ | shr x _ | subn x _ | shl x _ =>
    have hx : r ≠ x := List.ne_of_not_mem_cons h
    have hf : r ≠ VF := List.ne_of_not_mem_cons (List.not_mem_of_not_mem_cons h)
    exact reg_setResultAndFlag_other s _ _ hx hf
  | drw x y n => exact reg_drawn_of_ne (List.ne_of_not_mem_cons h)
  | ldVxK x =>
    show (keyedRegs s x)[r] = s.v[r]
    unfold keyedRegs
    split
    · rfl
    · exact reg_setReg_other s _ (List.ne_of_not_mem_cons h)
  | ldVxMem x =>
    have hr : ¬ r ≤ x := fun hle => h (List.mem_filter.mpr ⟨List.mem_finRange r, decide_eq_true hle⟩)
    show (loadedRegs s x)[r] = s.v[r]
    simp only [loadedRegs, Fin.getElem_fin, Vector.getElem_ofFn, Fin.eta, if_neg hr]
    rfl
  | _ => rfl

/-- An effect stores only the listed bytes. -/
theorem effect_readByte {b : Nat} (h : b < (bytesStored s i).1 ∨ (bytesStored s i).1 + (bytesStored s i).2 ≤ b) :
    (effect i s).readByte b = s.readByte b := by
  cases i with
  | ldBVx x => exact readByte_writeBytes_outside s _ _ h
  | ldMemVx x => exact readByte_writeBytes_outside s _ _ (by rwa [dumpedBytes, List.length_ofFn])
  | _ => rfl

theorem effect_i (hldI : ∀ nnn, i ≠ .ldI nnn) (haddI : ∀ x, i ≠ .addIVx x) (hldF : ∀ x, i ≠ .ldFVx x) :
    (effect i s).i = s.i := by
  cases i with
  | ldI nnn => exact absurd rfl (hldI nnn)
  | addIVx x => exact absurd rfl (haddI x)
  | ldFVx x => exact absurd rfl (hldF x)
  | _ => rfl

theorem effect_stack (hcall : ∀ nnn, i ≠ .call nnn) : (effect i s).stack = s.stack := by
  cases i with
  | call nnn => exact absurd rfl (hcall nnn)
  | _ => rfl

theorem effect_sp (hcall : ∀ nnn, i ≠ .call nnn) (hret : i ≠ .ret) : (effect i s).sp = s.sp := by
  cases i with
  | call nnn => exact absurd rfl (hcall nnn)
  | ret => exact absurd rfl hret
  | _ => rfl

theorem effect_dt (h : ∀ x, i ≠ .ldDtVx x) : (effect i s).dt = s.dt := by
  cases i with
  | ldDtVx x => exact absurd rfl (h x)
  | _ => rfl

theorem effect_st (h : ∀ x, i ≠ .ldStVx x) : (effect i s).st = s.st := by
  cases i with
  | ldStVx x => exact absurd rfl (h x)
  | _ => rfl

theorem effect_fb (hcls : i ≠ .cls) (hdrw : ∀ x y n, i ≠ .drw x y n) : (effect i s).fb = s.fb := by
  cases i with
  | cls => exact absurd rfl hcls
  | drw x y n => exact absurd rfl (hdrw x y n)
  | _ => rfl

theorem effect_pending (h : ∀ x, i ≠ .ldVxK x) : (effect i s).pending = s.pending := by
  cases i with
  | ldVxK x => exact absurd rfl (h x)
  | _ => rfl

theorem effect_rngDraws (h : ∀ x nn, i ≠ .rnd x nn) : (effect i s).rngDraws = s.rngDraws := by
  cases i with
  | rnd x nn => exact absurd rfl (h x nn)
  | _ => rfl

end Writers

/-- Settles O20: a fatal error writes the latch alone; a completion writes pc and what its effect does. -/
theorem onlyTheNamedInstructionsWriteEachRegister : Obligations.OnlyTheNamedInstructionsWriteEachRegister := by
  intro i s t h
  obtain ⟨r, -, rfl⟩ | ⟨-, rfl⟩ := exec_cases h
  · exact ⟨fun _ _ => rfl, fun _ _ => rfl, fun _ _ _ => rfl, fun _ => ⟨rfl, fun _ => rfl⟩, fun _ => rfl, fun _ => rfl,
      fun _ _ => rfl, fun _ => rfl, fun _ => rfl, rfl, rfl, rfl, rfl⟩
  · exact ⟨fun _ hr => effect_reg hr, fun _ hb => effect_readByte hb, effect_i, fun hc => ⟨effect_stack hc, effect_sp hc⟩,
      effect_dt, effect_st, effect_fb, effect_pending, effect_rngDraws, completed_fc i s, completed_speed i s,
      completed_keys i s, completed_config i s⟩

theorem faultOf_setKeypad (i : Instr) (s : State) (keys : BitVec 16) (pending : Option Key) :
    faultOf { s with keys := keys, pending := pending } i = faultOf s i := by
  cases i <;> rfl

/-- An instruction that does not read the keypad completes in the same way over any keypad. -/
theorem completed_setKeypad {i : Instr} (h : readsKeypad i = false) (s : State) (keys : BitVec 16) (pending : Option Key) :
    ({ s with keys := keys, pending := pending } : State).completed i =
      { s.completed i with keys := keys, pending := pending } := by
  cases i with
  | skp _ | sknp _ | ldVxK _ => cases h
  | _ => rfl

/-- Settles O22: neither the check nor the completion looks at the keypad. -/
theorem onlyKeyInstructionsDependOnTheKeypad : Obligations.OnlyKeyInstructionsDependOnTheKeypad := by
  intro i s t keys pending hi h
  obtain ⟨r, hf, rfl⟩ | ⟨hf, rfl⟩ := exec_cases h
  · exact exec_of_fault ((faultOf_setKeypad i s keys pending).trans hf)
  · rw [exec_of_no_fault ((faultOf_setKeypad i s keys pending).trans hf), completed_setKeypad hi]

theorem faultOf_setTiming (i : Instr) (s : State) (st : Byte) (fc speed : Nat) :
    faultOf { s with st := st, fc := fc, speed := speed } i = faultOf s i := by
  cases i <;> rfl

/-- Every instruction completes in the same way whatever ST, FC and Speed are; only Fx18 gives ST a value. -/
theorem completed_setTiming (i : Instr) (s : State) (st : Byte) (fc speed : Nat) :
    ({ s with st := st, fc := fc, speed := speed } : State).completed i =
      { s.completed i with
        st := (if ∃ x, i = .ldStVx x then (s.completed i).st else st), fc := fc, speed := speed } := by
  cases i with
  | ldStVx x => rw [if_pos ⟨x, rfl⟩]; rfl
  | _ => rw [if_neg (fun ⟨_, h⟩ => nomatch h)]; rfl

/-- Fx18 has no check to fail (R231). -/
theorem not_ldStVx_of_fault {i : Instr} {s : State} {r : FatalReason} (h : faultOf s i = some r) :
    ¬ ∃ x, i = .ldStVx x := by
  rintro ⟨x, rfl⟩
  cases h

/-- Settles O23: neither the check nor the completion looks at ST, FC or Speed. -/
theorem noInstructionReadsSoundTimerFrameCounterOrSpeed : Obligations.NoInstructionReadsSoundTimerFrameCounterOrSpeed := by
  intro i s t st fc speed h
  obtain ⟨r, hf, rfl⟩ | ⟨hf, rfl⟩ := exec_cases h
  · rw [exec_of_fault ((faultOf_setTiming i s st fc speed).trans hf), if_neg (not_ldStVx_of_fault hf)]
    rfl
  · rw [exec_of_no_fault ((faultOf_setTiming i s st fc speed).trans hf), completed_setTiming]

end Sys2Proof.Machine
end

section
/-!
PROOFS. The cycle, spec/40_execution_cycle.md R100 to R109: what one step can do and what it returns, said once; the frame count
and the tick; and what a fatal error leaves (R232, R233).
-/

namespace Sys2Proof.Machine

open Claims

section FrameAndTick
variable (s : State)

/-- Before its step a cycle changes FC and the timers alone. -/
theorem beginCycle_frame :
    s.beginCycle = { s with fc := s.fc + 1, dt := s.beginCycle.dt, st := s.beginCycle.st } := by
  unfold State.beginCycle
  split <;> rfl

/-- After its step a cycle changes FC alone. -/
theorem endCycle_frame : s.endCycle = { s with fc := s.endCycle.fc } := by
  unfold State.endCycle
  split <;> rfl

theorem tickDown_toNat (b : Byte) : (tickDown b).toNat = b.toNat - 1 := by
  unfold tickDown
  split
  · next h => rw [h]; rfl
  · next h =>
    have hpos : 0 < b.toNat := Nat.pos_of_ne_zero fun h0 => h (BitVec.eq_of_toNat_eq h0)
    have hlt := b.isLt
    rw [BitVec.toNat_sub]
    change (2 ^ 8 - 1 + b.toNat) % 2 ^ 8 = b.toNat - 1
    omega

variable {s}

theorem beginCycle_timers_of_due (h : (s.fc + 1) % s.speed = 0) :
    s.beginCycle.dt.toNat = s.dt.toNat - 1 ∧ s.beginCycle.st.toNat = s.st.toNat - 1 := by
  rw [beginCycle_dt, beginCycle_st, if_pos h, if_pos h]
  exact ⟨tickDown_toNat s.dt, tickDown_toNat s.st⟩

theorem beginCycle_timers_of_not_due (h : (s.fc + 1) % s.speed ≠ 0) :
    s.beginCycle.dt = s.dt ∧ s.beginCycle.st = s.st := by
  rw [beginCycle_dt, beginCycle_st, if_neg h, if_neg h]
  exact ⟨rfl, rfl⟩

end FrameAndTick

/-- Settles O8: a cycle begins with the frame count and, when due, the tick. -/
theorem timersTickWhenFrameCounterIsDue : Obligations.TimersTickWhenFrameCounterIsDue := by
  intro s
  refine ⟨?_, beginCycle_fc s, beginCycle_timers_of_due, beginCycle_timers_of_not_due, beginCycle_frame s⟩
  rw [step, State.runCycle, beginCycle_paused]

/-- Settles O10: FC is 0 between running cycles, so a tick is due when 1 mod Speed is 0. -/
theorem runningTicksOnlyAtSpeedOne : Obligations.RunningTicksOnlyAtSpeedOne := by
  intro s hinv hreset hrun
  have hfc : s.fc = 0 := hinv.frame hreset hrun
  refine ⟨fun h => beginCycle_timers_of_due (by rw [hfc, h]), fun h => beginCycle_timers_of_not_due ?_⟩
  rw [hfc, Nat.zero_add, Nat.mod_eq_of_lt h]
  exact one_ne_zero

section Step
variable {s t : State} {i : Instr} {r : FatalReason}

theorem fetch_beginCycle (s : State) : s.beginCycle.fetch = s.fetch := by
  simp only [State.fetch, beginCycle_pc, beginCycle_readByte]

/-- The tick changes nothing that the fetch reads. -/
theorem fetchDecode_beginCycle (s : State) : s.beginCycle.fetchDecode = s.fetchDecode := by
  rw [State.fetchDecode, fetch_beginCycle, State.fetchDecode]

theorem fetchDecode_of_unfetchable (h : 4095 < s.pc.toNat + 1) : s.fetchDecode = .error .memoryOutOfBounds := by
  rw [State.fetchDecode, fetch_error s (by omega)]

theorem fetchDecode_of_decode_ok (h : s.pc.toNat + 1 ≤ 4095) (hd : decode (BitVec.ofNat 16 (wordAt s s.pc.toNat)) = .ok i) :
    s.fetchDecode = .ok i := by
  rw [State.fetchDecode, fetch_eq_wordAt h]
  simp only [hd]

theorem fetchDecode_of_decode_error (h : s.pc.toNat + 1 ≤ 4095)
    (hd : decode (BitVec.ofNat 16 (wordAt s s.pc.toNat)) = .error .unknownInstruction) :
    s.fetchDecode = .error .unknownInstruction := by
  rw [State.fetchDecode, fetch_eq_wordAt h]
  simp only [hd]

/-- A fetch that gives an instruction was inside memory (R103). -/
theorem pc_le_of_fetchDecode_ok (h : s.fetchDecode = .ok i) : s.pc.toNat + 1 ≤ 4095 := by
  by_contra hpc
  cases (fetchDecode_of_unfetchable (Nat.lt_of_not_le hpc)).symm.trans h

theorem step_of_paused (h : s.paused = true) : step s = .next s.beginCycle := runCycle_paused s h

theorem step_of_fetchDecode_ok (h : s.paused = false) (hd : s.fetchDecode = .ok i) :
    step s = closeCycle (exec i s.beginCycle) := by
  rw [step, runCycle_running s h, State.runStep, fetchDecode_beginCycle, hd]

theorem step_of_fetchDecode_error (h : s.paused = false) (hd : s.fetchDecode = .error r) :
    step s = .next (s.beginCycle.enterFatal r).endCycle := by
  rw [step, runCycle_running s h, State.runStep, fetchDecode_beginCycle, hd]
  rfl

theorem cycleResult_of_paused (h : s.paused = true) : s.cycleResult = .idle := by
  rw [State.cycleResult, beginCycle_paused, if_pos h]

theorem cycleResult_of_fetchDecode_error (h : s.paused = false) (hd : s.fetchDecode = .error r) :
    s.cycleResult = .fatal r := by
  simp only [State.cycleResult, beginCycle_paused, h, fetchDecode_beginCycle, hd, Bool.false_eq_true, if_false]

theorem cycleResult_of_fetchDecode_ok (h : s.paused = false) (hd : s.fetchDecode = .ok i) :
    s.cycleResult = s.beginCycle.executed i (exec i s.beginCycle) := by
  simp only [State.cycleResult, beginCycle_paused, h, fetchDecode_beginCycle, hd, Bool.false_eq_true, if_false]

/-- What one step can do, and what the call returns: a Paused machine counts and ticks; the fetch, the decoder or the
instruction's own check raises a fatal error; or the instruction completes. -/
theorem step_cases (h : step s = .next t) :
    (s.paused = true ∧ t = s.beginCycle ∧ s.cycleResult = .idle) ∨
    (s.paused = false ∧ ∃ r, (∀ i, s.fetchDecode = .ok i → faultOf s.beginCycle i = some r) ∧
      t = (s.beginCycle.enterFatal r).endCycle ∧ s.cycleResult = .fatal r) ∨
    (s.paused = false ∧ ∃ i, s.fetchDecode = .ok i ∧ faultOf s.beginCycle i = none ∧
      t = (s.beginCycle.completed i).endCycle ∧
      s.cycleResult = if s.beginCycle.stallsOn i then .stalled else .ok) := by
  cases hp : s.paused with
  | true =>
    exact .inl ⟨rfl, Host.Outcome.next.inj (h.symm.trans (step_of_paused hp)), cycleResult_of_paused hp⟩
  | false =>
    refine .inr ?_
    cases hd : s.fetchDecode with
    | error r =>
      exact .inl ⟨rfl, r, fun i hi => (nomatch hi),
        Host.Outcome.next.inj (h.symm.trans (step_of_fetchDecode_error hp hd)), cycleResult_of_fetchDecode_error hp hd⟩
    | ok i =>
      have hstep := h.symm.trans (step_of_fetchDecode_ok hp hd)
      have hresult := cycleResult_of_fetchDecode_ok hp hd
      cases hf : faultOf s.beginCycle i with
      | some r =>
        rw [exec_of_fault hf] at hstep hresult
        refine .inl ⟨rfl, r, fun j hj => ?_, Host.Outcome.next.inj hstep, hresult⟩
        cases hj; exact hf
      | none =>
        rw [exec_of_no_fault hf] at hstep hresult
        refine .inr ⟨rfl, i, rfl, hf, Host.Outcome.next.inj hstep, hresult.trans ?_⟩
        simp only [State.executed, completed_paused, beginCycle_paused, hp]

end Step

/-- Settles O6: the two bytes at pc are fetched and decoded at the state the cycle begins with. -/
theorem stepRunsTheDecodedInstruction : Obligations.StepRunsTheDecodedInstruction := by
  intro s i hp hpc hd
  have hstep := step_of_fetchDecode_ok hp (fetchDecode_of_decode_ok hpc hd)
  exact ⟨hstep, fun t ht => by rw [hstep, ht]; rfl⟩

/-- Settles O12: every instruction answers a next state, and so does a step that runs one or none. -/
theorem everyStepAnswersANextState : Obligations.EveryStepAnswersANextState := by
  refine ⟨fun s => ?_, exec_eq_next⟩
  cases hp : s.paused with
  | true => exact ⟨_, step_of_paused hp⟩
  | false =>
    cases hd : s.fetchDecode with
    | error r => exact ⟨_, step_of_fetchDecode_error hp hd⟩
    | ok i =>
      obtain ⟨t, ht⟩ := exec_eq_next i s.beginCycle
      exact ⟨t.endCycle, by rw [step_of_fetchDecode_ok hp hd, ht]; rfl⟩

/-- The state after a fatal error of a cycle: the latch is set, FC and the timers are the cycle's, all else is as before. -/
theorem latched_frame (s : State) (r : FatalReason) :
    (s.beginCycle.enterFatal r).endCycle =
      { s with paused := true, faultReason := some r, fc := (s.beginCycle.enterFatal r).endCycle.fc,
               dt := s.beginCycle.dt, st := s.beginCycle.st } := by
  rw [endCycle_frame, State.enterFatal, beginCycle_frame]

/-- Settles O7: the fetch, or the decoder, raises the fatal error. -/
theorem unfetchableOrIllegalWordIsFatal : Obligations.UnfetchableOrIllegalWordIsFatal := by
  intro s hp
  have fatal {r : FatalReason} (hd : s.fetchDecode = .error r) :
      ∃ t, step s = .next t ∧ t.paused = true ∧ t.faultReason = some r ∧
        t = { s with paused := true, faultReason := t.faultReason, fc := t.fc, dt := s.beginCycle.dt,
                     st := s.beginCycle.st } := by
    have hframe := latched_frame s r
    exact ⟨_, step_of_fetchDecode_error hp hd, by rw [hframe], by rw [hframe], by rw [hframe]⟩
  exact ⟨fun hpc => fatal (fetchDecode_of_unfetchable hpc), fun hpc hd => fatal (fetchDecode_of_decode_error hpc hd)⟩

/-- Settles O9: a running cycle ends by resetting FC under on_step, whether the step was fatal or not. -/
theorem frameCounterAfterACycle : Obligations.FrameCounterAfterACycle := by
  intro s t h
  have running {u : State} (hfc : u.fc = s.fc + 1) (hconfig : u.config = s.config) (hp : s.paused = false) :
      (s.paused = false → s.config.tickReset = .onStep → u.endCycle.fc = 0) ∧
        (s.paused = true ∨ s.config.tickReset = .onTick → u.endCycle.fc = s.fc + 1) := by
    rw [endCycle_fc, hconfig, hfc]
    refine ⟨fun _ hreset => if_pos hreset, fun hor => if_neg ?_⟩
    obtain hp' | hreset := hor
    · cases hp.symm.trans hp'
    · rw [hreset]; decide
  obtain ⟨hp, rfl, -⟩ | ⟨hp, r, -, rfl, -⟩ | ⟨hp, i, -, -, rfl, -⟩ := step_cases h
  · exact ⟨fun hp' => (nomatch hp.symm.trans hp'), fun _ => beginCycle_fc s⟩
  · exact running (beginCycle_fc s) (beginCycle_config s) hp
  · exact running ((completed_fc ..).trans (beginCycle_fc s)) ((completed_config ..).trans (beginCycle_config s)) hp

/-- Settles O15: of the three things a running step can do only a fatal error sets the latch. -/
theorem fatalErrorsArePrecise : Obligations.FatalErrorsArePrecise := by
  intro s t hp h ht
  obtain ⟨hp', -, -⟩ | ⟨-, r, -, rfl, -⟩ | ⟨-, i, -, -, rfl, -⟩ := step_cases h
  · cases hp.symm.trans hp'
  · exact ⟨r, latched_frame s r⟩
  · rw [endCycle_paused, completed_paused, beginCycle_paused, hp] at ht
    cases ht

theorem awaitedKey_beginCycle (s : State) : s.beginCycle.awaitedKey = s.awaitedKey := by
  simp only [State.awaitedKey, beginCycle_pending, beginCycle_config]

/-- Only Fx0A stalls, and only with no key to accept (R108, R212). -/
theorem stallsOn_iff (s : State) (i : Instr) : s.stallsOn i = true ↔ (∃ x, i = .ldVxK x) ∧ s.awaitedKey = none := by
  cases i with
  | ldVxK x => simp [State.stallsOn]
  | _ => simp [State.stallsOn]

/-- Settles O13: each of the three things a step can do returns its own value. -/
theorem cycleReturnsWhatItDid : Obligations.CycleReturnsWhatItDid := by
  intro s t h
  obtain ⟨hp, rfl, hres⟩ | ⟨hp, r, hfault, rfl, hres⟩ | ⟨hp, i, hd, -, rfl, hres⟩ := step_cases h
  · simp [hres, hp]
  · have hno (x : Reg) : s.beginCycle.fetchDecode ≠ .ok (.ldVxK x) := by
      intro hd
      rw [fetchDecode_beginCycle] at hd
      cases hfault _ hd
    simp [hres, hp, hno, eq_comm]
  · have hstall : s.beginCycle.stallsOn i = true ↔
        (∃ x, s.beginCycle.fetchDecode = .ok (.ldVxK x)) ∧ s.awaitedKey = none := by
      rw [stallsOn_iff, awaitedKey_beginCycle, fetchDecode_beginCycle, hd]
      simp
    rw [← hstall]
    by_cases hs : s.beginCycle.stallsOn i = true <;> simp [hres, hp, hs]

end Sys2Proof.Machine
end

section
/-!
PROOFS. The invariant, spec/10_state.md and R110: the effect of an instruction keeps memory canonical, SP and the return addresses
in their ranges, and the table's pc in its bound; so every step does, and every operation of the host.
-/

namespace Sys2Proof.Machine

open Claims

/-- The power-on state is legal for every legal Speed (R273). -/
theorem powerOn_inv (config : Config) {speed : Nat} (h : 1 ≤ speed ∧ speed ≤ 5) : (State.powerOn config speed).Inv where
  memory := Memory.nil_wf config.font
  sp := ⟨le_refl _, (by decide : (-1 : Int) ≤ 15)⟩
  speed := h
  latch := rfl
  frame _ _ := rfl
  pc := (by decide : (0x200 : Word).toNat ≤ 0x10FE)
  stack k := by simp [State.powerOn]

/-- Settles O17: reset is a power-on at Speed 1. -/
theorem resetStateIsLegal : Obligations.ResetStateIsLegal := powerOn_inv defaultConfig (by decide)

section Completed
variable {i : Instr} {s : State}

theorem completed_memory (h : Memory.wf s.config.font s.mem) :
    Memory.wf (s.completed i).config.font (s.completed i).mem := by
  rw [completed_config]
  cases i with
  | ldBVx x | ldMemVx x => exact Memory.writeAll_wf _ h _
  | _ => exact h

theorem completed_sp (hf : faultOf s i = none) (h : -1 ≤ s.sp ∧ s.sp ≤ 15) :
    -1 ≤ (s.completed i).sp ∧ (s.completed i).sp ≤ 15 := by
  cases i with
  | call nnn =>
    have hne : s.sp ≠ 15 := fun he => by rw [faultOf, if_pos he] at hf; cases hf
    change -1 ≤ s.sp + 1 ∧ s.sp + 1 ≤ 15
    omega
  | ret =>
    have hne : s.sp ≠ -1 := fun he => by rw [faultOf, if_pos he] at hf; cases hf
    change -1 ≤ s.sp - 1 ∧ s.sp - 1 ≤ 15
    omega
  | _ => exact h

/-- A pushed entry is the word pushed or was on the stack before. -/
theorem stack_push_eq_or (s : State) (w : Word) (k : Fin 16) :
    (s.push w).stack[k] = w ∨ (s.push w).stack[k] = s.stack[k] := by
  unfold State.push
  cases stackEntry (s.sp + 1) with
  | none => exact .inr rfl
  | some j =>
    simp only [Fin.getElem_fin, Vector.getElem_set]
    split
    · exact .inl rfl
    · exact .inr rfl

theorem completed_stack (hpc : s.pc.toNat ≤ 4094) (h : ∀ k : Fin 16, s.stack[k].toNat ≤ 4096) (k : Fin 16) :
    (s.completed i).stack[k].toNat ≤ 4096 := by
  cases i with
  | call nnn =>
    change ((s.push (s.pc + 2)).stack[k]).toNat ≤ 4096
    obtain he | he := stack_push_eq_or s (s.pc + 2) k
    · have hw : (s.pc + 2).toNat = (s.pc.toNat + 2) % 2 ^ 16 := BitVec.toNat_add s.pc 2
      rw [he, hw]; omega
    · rw [he]; exact h k
  | _ => exact h k

theorem stackTop_le (h : ∀ k : Fin 16, s.stack[k].toNat ≤ 4096) : s.stackTop.toNat ≤ 4096 := by
  unfold State.stackTop
  split
  · next k _ => exact h k
  · exact Nat.zero_le _

/-- R110: from a fetchable pc, the table's value is at most 0x10FE: 0xFFF + 0xFF for JP V0, else less. -/
theorem pcAfter_le (hpc : s.pc.toNat ≤ 4094) (h : ∀ k : Fin 16, s.stack[k].toNat ≤ 4096) : pcAfter s i ≤ 0x10FE := by
  cases i with
  | sys nnn | jp nnn | call nnn => have hn := nnn.isLt; simp only [pcAfter]; omega
  | jpV0 nnn => have hn := nnn.isLt; have hv := (s.reg 0).isLt; simp only [pcAfter]; omega
  | ret => have htop := stackTop_le h; simp only [pcAfter]; omega
  | seVxNn _ _ | sneVxNn _ _ | seVxVy _ _ | sneVxVy _ _ | skp _ | sknp _ | ldVxK _ => simp only [pcAfter]; split <;> omega
  | _ => simp only [pcAfter]; omega

theorem completed_pc_le (hpc : s.pc.toNat ≤ 4094) (h : ∀ k : Fin 16, s.stack[k].toNat ≤ 4096) :
    (s.completed i).pc.toNat ≤ 0x10FE := by
  rw [completed_pc_toNat]
  exact (Nat.mod_le _ _).trans (pcAfter_le hpc h)

end Completed

/-- The frame count and the tick of a Paused cycle keep a legal state legal. -/
theorem beginCycle_inv_of_paused {s : State} (hinv : s.Inv) (hp : s.paused = true) : s.beginCycle.Inv where
  memory := by simpa using hinv.memory
  sp := by simpa using hinv.sp
  speed := by simpa using hinv.speed
  latch := by simpa using hinv.latch
  frame _ hrun := nomatch hp.symm.trans ((beginCycle_paused s).symm.trans hrun)
  pc := by simpa using hinv.pc
  stack := by simpa using hinv.stack

/-- A cycle that raises a fatal error keeps a legal state legal. -/
theorem latched_inv {s : State} (hinv : s.Inv) (r : FatalReason) : (s.beginCycle.enterFatal r).endCycle.Inv where
  memory := by simpa using hinv.memory
  sp := by simpa using hinv.sp
  speed := by simpa using hinv.speed
  latch := by simp
  frame _ hrun := nomatch (endCycle_paused _).symm.trans hrun
  pc := by simpa using hinv.pc
  stack := by simpa using hinv.stack

/-- A cycle that completes an instruction keeps a legal state legal. -/
theorem completed_endCycle_inv {s : State} {i : Instr} (hinv : s.Inv) (hpc : s.pc.toNat ≤ 4094)
    (hf : faultOf s.beginCycle i = none) : (s.beginCycle.completed i).endCycle.Inv where
  memory := by
    rw [endCycle_mem, endCycle_config]
    exact completed_memory (by simpa using hinv.memory)
  sp := by
    rw [endCycle_sp]
    exact completed_sp hf (by simpa using hinv.sp)
  speed := by simpa using hinv.speed
  latch := by simpa using hinv.latch
  frame hreset _ := by
    rw [endCycle_config] at hreset
    rw [endCycle_fc, if_pos hreset]
  pc := by
    rw [endCycle_pc]
    exact completed_pc_le (by simpa using hpc) (by simpa using hinv.stack)
  stack k := by
    simp only [endCycle_stack]
    exact completed_stack (by simpa using hpc) (by simpa using hinv.stack) k

/-- Settles O18: the three things a step can do keep the invariant; an instruction runs only from a fetchable pc. -/
theorem everyStepKeepsTheStateLegal : Obligations.EveryStepKeepsTheStateLegal := by
  intro s t hinv h
  obtain ⟨hp, rfl, -⟩ | ⟨-, r, -, rfl, -⟩ | ⟨-, i, hd, hf, rfl, -⟩ := step_cases h
  · exact beginCycle_inv_of_paused hinv hp
  · exact latched_inv hinv r
  · exact completed_endCycle_inv hinv (Nat.le_of_succ_le_succ (pc_le_of_fetchDecode_ok hd)) hf

theorem cycled_of_step {s t : State} (h : step s = .next t) : s.cycled = t := by
  rw [State.cycled, h]

theorem loadROM_of_le (s : State) {bytes : List Byte} (h : bytes.length ≤ 3584) :
    s.loadROM bytes = s.resetForLoad.writeBytes loadAddress bytes :=
  if_neg (Nat.not_lt.mpr h)

theorem loadROM_of_gt (s : State) {bytes : List Byte} (h : 3584 < bytes.length) :
    s.loadROM bytes = s.resetForLoad.enterFatal .memoryOutOfBounds :=
  if_pos h

/-- The reset of a load keeps the settings, Speed and the random source alone, so it is legal when Speed is (R270). -/
theorem resetForLoad_inv {s : State} (h : 1 ≤ s.speed ∧ s.speed ≤ 5) : s.resetForLoad.Inv := by
  obtain ⟨hmem, hsp, hspeed, hlatch, hframe, hpc, hstack⟩ := powerOn_inv s.config h
  exact ⟨hmem, hsp, hspeed, hlatch, hframe, hpc, hstack⟩

theorem loadROM_inv {s : State} (hinv : s.Inv) (bytes : List Byte) : (s.loadROM bytes).Inv := by
  obtain ⟨hmem, hsp, hspeed, hlatch, hframe, hpc, hstack⟩ := resetForLoad_inv hinv.speed
  by_cases h : bytes.length ≤ 3584
  · rw [loadROM_of_le s h]
    exact ⟨Memory.writeAll_wf bytes hmem loadAddress, hsp, hspeed, hlatch, hframe, hpc, hstack⟩
  · rw [loadROM_of_gt s (Nat.lt_of_not_le h)]
    exact ⟨hmem, hsp, hspeed, rfl, fun _ hrun => (nomatch hrun), hpc, hstack⟩

/-- The keypad is no part of the invariant. -/
theorem setKeypad_inv {s : State} (hinv : s.Inv) (keys : BitVec 16) (pending : Option Key) :
    ({ s with keys := keys, pending := pending } : State).Inv :=
  ⟨hinv.memory, hinv.sp, hinv.speed, hinv.latch, hinv.frame, hinv.pc, hinv.stack⟩

theorem setSpeed_inv {s : State} (hinv : s.Inv) {speed : Nat} (h : 1 ≤ speed ∧ speed ≤ 5) :
    ({ s with speed := speed } : State).Inv :=
  ⟨hinv.memory, hinv.sp, h, hinv.latch, hinv.frame, hinv.pc, hinv.stack⟩

/-- Every operation of the host keeps a legal state legal. -/
theorem after_inv {s : State} (hinv : s.Inv) (op : Transaction) : (s.after op).Inv := by
  cases op with
  | loadROM bytes => exact loadROM_inv hinv bytes
  | cycle =>
    obtain ⟨t, ht⟩ := everyStepAnswersANextState.1 s
    rw [State.after, cycled_of_step ht]
    exact everyStepKeepsTheStateLegal s t hinv ht
  | pressKey k =>
    rw [State.after, State.pressKey]
    split
    · exact setKeypad_inv hinv _ _
    · exact hinv
  | releaseKey k =>
    rw [State.after, State.releaseKey]
    split
    · split
      · exact setKeypad_inv hinv _ _
      · exact setKeypad_inv hinv _ s.pending
    · exact hinv
  | speedUp => exact setSpeed_inv hinv (by have := hinv.speed; omega)
  | speedDown => exact setSpeed_inv hinv (by have := hinv.speed; omega)
  | getFramebuffer | hasSound | debugState => exact hinv

/-- Settles O19, by induction on the operations. -/
theorem everyHostSequenceKeepsTheStateLegal : Obligations.EveryHostSequenceKeepsTheStateLegal := by
  intro s ops
  induction ops generalizing s with
  | nil => exact id
  | cons op ops ih => exact fun hinv => ih (s.after op) (after_inv hinv op)

end Sys2Proof.Machine
end

section
/-!
PROOFS. Paused machines, R33, R109, R235, R241: a Paused cycle is the frame count and the tick, n of them tick once for each
multiple of Speed that FC passes, and no operation but loadROM leaves the latch.
-/

namespace Sys2Proof.Machine

theorem cycled_of_paused {s : State} (h : s.paused = true) : s.cycled = s.beginCycle := cycled_of_step (step_of_paused h)

/-- Cycles of a Paused machine change FC and the timers alone. -/
theorem afterCycles_frame_of_paused {s : State} (h : s.paused = true) (n : Nat) :
    s.afterCycles n =
      { s with fc := (s.afterCycles n).fc, dt := (s.afterCycles n).dt, st := (s.afterCycles n).st } := by
  induction n with
  | zero => rfl
  | succ n ih =>
    have hp : (s.afterCycles n).paused = true := by rw [ih]; exact h
    rw [State.afterCycles, cycled_of_paused hp, beginCycle_frame, ih]

theorem afterCycles_paused {s : State} (h : s.paused = true) (n : Nat) : (s.afterCycles n).paused = true := by
  rw [afterCycles_frame_of_paused h]; exact h

theorem afterCycles_succ_of_paused {s : State} (h : s.paused = true) (n : Nat) :
    s.afterCycles (n + 1) = (s.afterCycles n).beginCycle :=
  cycled_of_paused (afterCycles_paused h n)

theorem afterCycles_fc_of_paused {s : State} (h : s.paused = true) (n : Nat) : (s.afterCycles n).fc = s.fc + n := by
  induction n with
  | zero => rfl
  | succ n ih => rw [afterCycles_succ_of_paused h, beginCycle_fc, ih, Nat.add_assoc]

/-- The timers have gone down once for each multiple of Speed passed: one more cycle passes one when its FC is one. -/
theorem afterCycles_timers_of_paused {s : State} (h : s.paused = true) (n : Nat) :
    (s.afterCycles n).dt.toNat = s.dt.toNat - ((s.fc + n) / s.speed - s.fc / s.speed) ∧
      (s.afterCycles n).st.toNat = s.st.toNat - ((s.fc + n) / s.speed - s.fc / s.speed) := by
  induction n with
  | zero => simp [State.afterCycles]
  | succ n ih =>
    obtain ⟨hdt, hst⟩ := ih
    have hspeed : (s.afterCycles n).speed = s.speed := by rw [afterCycles_frame_of_paused h]
    have hpassed : s.fc / s.speed ≤ (s.fc + n) / s.speed := Nat.div_le_div_right (Nat.le_add_right _ _)
    have hfc := afterCycles_fc_of_paused h n
    rw [afterCycles_succ_of_paused h, ← Nat.add_assoc, Nat.succ_div]
    by_cases hdue : s.speed ∣ s.fc + n + 1
    · obtain ⟨hdt', hst'⟩ := beginCycle_timers_of_due (s := s.afterCycles n)
        (by rw [hfc, hspeed]; exact Nat.mod_eq_zero_of_dvd hdue)
      rw [hdt', hst', hdt, hst, if_pos hdue]
      omega
    · obtain ⟨hdt', hst'⟩ := beginCycle_timers_of_not_due (s := s.afterCycles n)
        (by rw [hfc, hspeed]; exact fun h0 => hdue (Nat.dvd_of_mod_eq_zero h0))
      rw [hdt', hst', hdt, hst, if_neg hdue]
      exact ⟨rfl, rfl⟩

/-- Settles O11, by the induction over the cycles in the lemmas above. -/
theorem pausedCyclesTickEverySpeedCycles : Obligations.PausedCyclesTickEverySpeedCycles := fun _ n h =>
  ⟨afterCycles_fc_of_paused h n, (afterCycles_timers_of_paused h n).1, (afterCycles_timers_of_paused h n).2,
    afterCycles_frame_of_paused h n⟩

/-- All state but FC, the timers, Speed and the keypad is the same: what a Paused machine keeps (R33). -/
def State.keptWhilePaused (s t : State) : Prop :=
  t = { s with fc := t.fc, dt := t.dt, st := t.st, speed := t.speed, keys := t.keys, pending := t.pending }

theorem keptWhilePaused_trans {s t u : State} (hst : s.keptWhilePaused t) (htu : t.keptWhilePaused u) :
    s.keptWhilePaused u := by
  unfold State.keptWhilePaused at *
  rw [htu, hst]

/-- Each operation but loadROM keeps what a Paused machine keeps. -/
theorem keptWhilePaused_after {s : State} (h : s.paused = true) {op : Transaction}
    (hload : ∀ bytes, Transaction.loadROM bytes ≠ op) : s.keptWhilePaused (s.after op) := by
  cases op with
  | loadROM bytes => exact absurd rfl (hload bytes)
  | cycle =>
    rw [State.after, cycled_of_paused h]
    unfold State.keptWhilePaused
    rw [beginCycle_frame]
  | pressKey k =>
    rw [State.after, State.pressKey]
    split <;> rfl
  | releaseKey k =>
    rw [State.after, State.releaseKey]
    split
    · split <;> rfl
    · rfl
  | speedUp | speedDown | getFramebuffer | hasSound | debugState => rfl

/-- Settles O16, by induction on the operations. -/
theorem pausedStopsExecutionUntilLoadROM : Obligations.PausedStopsExecutionUntilLoadROM := by
  intro s ops
  induction ops generalizing s with
  | nil => exact fun _ _ => rfl
  | cons op ops ih =>
    intro hp hload
    have hop : s.keptWhilePaused (s.after op) :=
      keptWhilePaused_after hp fun bytes he => hload bytes (he ▸ List.mem_cons_self)
    have hp' : (s.after op).paused = true := by rw [hop]; exact hp
    exact keptWhilePaused_trans hop
      (ih (s.after op) hp' fun bytes hmem => hload bytes (List.mem_cons_of_mem op hmem))

end Sys2Proof.Machine
end

section
/-!
PROOFS. The other host operations, spec/60_exceptions.md R245 to R252, spec/45_keys_timers.md R217, R218 and
spec/70_reset_and_hazards.md R270 to R274: the key masks bit by bit, Speed, the queries with the row-major index of a cell, and
loadROM on either side of its length check.
-/

namespace Sys2Proof.Machine

open Claims

section Keypad
variable (s : State) {k : Nat}

theorem getLsbD_keyMask (hk : k < 16) (j : Nat) : (keyMask k).getLsbD j = decide (j = k) := by
  rw [keyMask, BitVec.getLsbD_shiftLeft, BitVec.getLsbD_one]
  by_cases hj : j = k
  · simp [hj, hk]
  · simp [hj]; omega

theorem pressKey_of_lt (hk : k < 16) :
    s.pressKey k = { s with keys := s.keys ||| keyMask k, pending := some ⟨k, hk⟩ } :=
  dif_pos hk

theorem releaseKey_of_keeping (hk : k < 16) (hc : s.config.releaseClearsAll = false) :
    s.releaseKey k = { s with keys := s.keys &&& ~~~ keyMask k } := by
  rw [State.releaseKey, if_pos hk, hc]
  rfl

theorem releaseKey_of_clearing (hk : k < 16) (hc : s.config.releaseClearsAll = true) :
    s.releaseKey k = { s with keys := 0, pending := none } := by
  rw [State.releaseKey, if_pos hk, hc]
  rfl

/-- A key is down when its bit of the mask is 1. -/
theorem keyDown_eq_getLsbD (s : State) (j : Nat) : keyDown s j = (decide (j < 16) && s.keys.getLsbD j) := rfl

theorem keyDown_pressKey (hk : k < 16) (j : Nat) : keyDown (s.pressKey k) j = (decide (j = k) || keyDown s j) := by
  rw [pressKey_of_lt s hk, keyDown_eq_getLsbD, keyDown_eq_getLsbD, BitVec.getLsbD_or, getLsbD_keyMask hk]
  by_cases hj : j = k
  · simp [hj, hk]
  · simp [hj]

theorem keyDown_releaseKey_of_keeping (hk : k < 16) (hc : s.config.releaseClearsAll = false) (j : Nat) :
    keyDown (s.releaseKey k) j = (decide (j ≠ k) && keyDown s j) := by
  rw [releaseKey_of_keeping s hk hc, keyDown_eq_getLsbD, keyDown_eq_getLsbD, BitVec.getLsbD_and, BitVec.getLsbD_not,
    getLsbD_keyMask hk]
  by_cases hj : j = k
  · simp [hj]
  · by_cases hlt : j < 16 <;> simp [hj, hlt]

end Keypad

/-- Settles O55, by the mask with key k's bit set. -/
theorem pressKeyMarksAndRecordsTheKey : Obligations.PressKeyMarksAndRecordsTheKey := by
  refine fun s k => ⟨fun hk => ⟨keyDown_pressKey s hk, ?_, ?_⟩, fun hk => dif_neg (Nat.not_lt.mpr hk)⟩
  · rw [pressKey_of_lt s hk]; rfl
  · rw [pressKey_of_lt s hk]

/-- Settles O56, by the mask with key k's bit cleared, or the empty one. -/
theorem releaseKeyClearsOneKeyOrAll : Obligations.ReleaseKeyClearsOneKeyOrAll := by
  refine fun s k => ⟨fun hk hc => ⟨keyDown_releaseKey_of_keeping s hk hc, ?_⟩, releaseKey_of_clearing s,
    fun hk => if_neg (Nat.not_lt.mpr hk)⟩
  rw [releaseKey_of_keeping s hk hc]

/-- Settles O57: truncated subtraction and the minimum saturate. -/
theorem speedOperationsSaturateInOneToFive : Obligations.SpeedOperationsSaturateInOneToFive := by
  intro s hlo hhi
  refine ⟨?_, ?_, rfl, rfl⟩
  · change max 1 (s.speed - 1) = _
    split <;> omega
  · change min 5 (s.speed + 1) = _
    split <;> omega

section RowMajor

theorem length_flatMap_rows (rows : List (Vector Bool 64)) : (rows.flatMap fun row => row.toList).length = rows.length * 64 := by
  induction rows with
  | nil => rfl
  | cons row rows ih => rw [List.flatMap_cons, List.length_append, ih, Vector.length_toList, List.length_cons]; omega

/-- Cell x of row y stands at index y * 64 + x of the rows laid end to end (R36). -/
theorem getElem?_flatMap_rows {rows : List (Vector Bool 64)} : ∀ {y : Nat} (hy : y < rows.length) (x : Fin 64),
    (rows.flatMap fun row => row.toList)[y * 64 + x.val]? = some (rows[y])[x] := by
  induction rows with
  | nil => exact fun hy _ => absurd hy (Nat.not_lt_zero _)
  | cons row rows ih =>
    intro y hy x
    have hx := x.isLt
    cases y with
    | zero =>
      rw [List.flatMap_cons, List.getElem?_append_left (by rw [Vector.length_toList]; omega)]
      simp
    | succ y =>
      rw [List.flatMap_cons, List.getElem?_append_right (by rw [Vector.length_toList]; omega), Vector.length_toList,
        show (y + 1) * 64 + x.val - 64 = y * 64 + x.val by omega, ih (Nat.lt_of_succ_lt_succ hy)]
      rfl

end RowMajor

/-- Settles O58: the queries are the identity on states, and the cells are the rows laid end to end. -/
theorem queriesAnswerAndChangeNothing : Obligations.QueriesAnswerAndChangeNothing := by
  intro s
  refine ⟨rfl, rfl, rfl, ⟨s.fb.rowMajor, rfl, ?_, fun x y => ?_⟩, ?_, rfl⟩
  · rw [Framebuffer.rowMajor, length_flatMap_rows, Vector.length_toList]
  · rw [Framebuffer.rowMajor, getElem?_flatMap_rows (by rw [Vector.length_toList]; exact y.isLt), Vector.getElem_toList]
    rfl
  · refine congrArg Reply.sound (Bool.eq_iff_iff.mpr ?_)
    rw [State.hasSound, bne_iff_ne, decide_eq_true_iff, Nat.pos_iff_ne_zero]
    exact BitVec.toNat_inj.symm.not

section LoadROM
variable (s : State) {bytes : List Byte}

/-- Outside the image, memory after a load is the reset contents (R61, R270). -/
theorem readByte_loadROM_outside (h : bytes.length ≤ 3584) {a : Nat} (ha : a < 0x200 ∨ 0x200 + bytes.length ≤ a) :
    (s.loadROM bytes).readByte a = Memory.unlisted s.config.font a := by
  rw [loadROM_of_le s h]
  exact readByte_writeBytes_outside s.resetForLoad loadAddress bytes ha

/-- Byte k of the image stands at 0x200 + k (R270). -/
theorem readByte_loadROM_inside (h : bytes.length ≤ 3584) {k : Nat} (hk : k < bytes.length) :
    (s.loadROM bytes).readByte (0x200 + k) = bytes[k] := by
  rw [loadROM_of_le s h]
  exact readByte_writeBytes_inside s.resetForLoad loadAddress bytes hk (by simp only [loadAddress, memorySize]; omega)

/-- An empty image leaves the reset state (R270). -/
theorem loadROM_nil : s.loadROM [] = s.resetForLoad := loadROM_of_le s (Nat.zero_le _)

end LoadROM

/-- Settles O59: the fields are the reset's, and the image begins above the font. -/
theorem loadRomLeavesTheResetInvariant : Obligations.LoadRomLeavesTheResetInvariant := by
  intro s bytes h
  have hfont (a : Fin 80) : (s.loadROM bytes).readByte a.val = s.config.font[a] := by
    rw [readByte_loadROM_outside s h (.inl (by omega)), Memory.unlisted, dif_pos a.isLt]
    rfl
  have hreg (r : Reg) : (Vector.replicate 16 (0 : Byte))[r] = 0 := Vector.getElem_replicate r.isLt
  rw [loadROM_of_le s h] at hfont ⊢
  exact ⟨hreg, rfl, rfl, rfl, rfl, rfl, rfl, Framebuffer.cell_blank, rfl, rfl, hfont, rfl⟩

/-- Settles O60: in range the image is placed over the reset contents; a longer one latches the reset state. -/
theorem loadRomPlacesTheImageOrIsFatal : Obligations.LoadRomPlacesTheImageOrIsFatal := by
  intro s bytes
  constructor
  · intro h
    have hzero (a : Nat) (ha : 80 ≤ a) (hout : a < 0x200 ∨ 0x200 + bytes.length ≤ a) :
        (s.loadROM bytes).readByte a = 0 := by
      rw [readByte_loadROM_outside s h hout, Memory.unlisted, dif_neg (Nat.not_lt.mpr ha)]
    have hstack (k : Fin 16) : (Vector.replicate 16 (0 : Word))[k] = 0 := Vector.getElem_replicate k.isLt
    have hplaced (k : Nat) (hk : k < bytes.length) := readByte_loadROM_inside s h hk
    have hreply : s.reply (.loadROM bytes) = .nothing := if_neg (Nat.not_lt.mpr h)
    rw [loadROM_of_le s h] at hplaced hzero ⊢
    exact ⟨hplaced, hzero, hstack, rfl, rfl, rfl, rfl, hreply⟩
  · intro h
    have hpaused : (s.loadROM bytes).paused = true := by rw [loadROM_of_gt s h]; rfl
    refine ⟨if_pos h, ?_, fun n => cycleResult_of_paused (afterCycles_paused hpaused n)⟩
    rw [loadROM_of_gt s h, loadROM_nil]
    rfl

end Sys2Proof.Machine
end
